-- ==== Sys2Proof/Word.lean ====
section
/-! DEFINITION. The word types of the part's frames and counters: bytes, the fields of two, three and
four bytes (R203), and the 32-bit counts that wrap (R3, R26, R84). -/

namespace Sys2Proof

/-- One byte of a frame (R201). -/
abbrev Byte := BitVec 8

/-- A field of two bytes: ordinals, sheets per set, sets, allowance, period number, PIN check (R203). -/
abbrev Half := BitVec 16

/-- A field of three bytes: amounts and account numbers (R203). -/
abbrev Amount24 := BitVec 24

/-- A gateway reference, four bytes (R203). -/
abbrev Reference := BitVec 32

/-- A count of 0 to 4,294,967,295 that wraps to 0 (R3, R26, R27, R84). -/
abbrev Count := BitVec 32

end Sys2Proof
end

