-- ==== Sys2Proof/Config.lean ====
section
/-! DEFINITION. What is fixed for the part: the sizes of its tables and queues, the ranges and defaults
of the ten configuration parameters (R179), and the free value the spec leaves open. -/

namespace Sys2Proof.Config

/-- Number of station ports (00 "Connections"). -/
abbrev stations : Nat := 16

/-- Number of hold slots (R107). -/
abbrev holdSlots : Nat := 32

/-- Path list capacity (R52). -/
def pathCapacity : Nat := 8

/-- Own-frame queue capacity (R150, R154). -/
def ownQueueCapacity : Nat := 16

/-- Text queue capacity (R150, R161). -/
def textQueueCapacity : Nat := 2

/-- SERVICE_UP queue capacity (R159). -/
def serviceUpCapacity : Nat := 16

/-- Account table capacity (R82). -/
def accountCapacity : Nat := 512

/-- Stale-void list capacity (R114). -/
def staleVoidCapacity : Nat := 4

/-- Report queue capacity (R145). -/
def reportCapacity : Nat := 32

/-- Reports of one station the report queue may hold (R145). -/
def reportsPerStation : Nat := 2

/-- Management input queue capacity (R172). -/
def inputCapacity : Nat := 4

/-- Reply queue capacity (R171, R173). -/
def replyCapacity : Nat := 4

/-- Hold slots one station may own (R108). -/
def slotsPerStation : Nat := 2

/-- The largest amount (00 "Amounts"). -/
def maxAmount : Nat := 16777215

/-- The largest allowance a GO carries (R30). -/
def maxAllowance : Nat := 65535

/-- Payload limit of a station link (R152). -/
def stationPayloadLimit : Nat := 64

/-- Payload limit of the uplink (R162). -/
def uplinkPayloadLimit : Nat := 96

/-- The longest SERVICE payload or text (R159, R161). -/
def textLimit : Nat := 48

/-- The longest list of a JAM or CLEAR (R56, R65). -/
def listLimit : Nat := 8

/-- Bytes of a card token (R15, R204). -/
def tokenLength : Nat := 16

/-- The longest parameter list of a MGMT frame: 96 bytes less the tag and the kind (R204, R205). -/
def paramLimit : Nat := 93

/-- FREE VALUE (log 8). The spec says that a slot's renewal falling due joins the tail of the payment
request queue (R121, R110), and that a timer runs out within a second of its count's end (R1, R184), and not in
which order the slots that fall due at one tick join, nor in which order several overdue timers run out. The
n-th tick takes the events of each kind by rising `tickKey n event`, events of equal key by their number.
Nothing is known of this function. -/
opaque tickKey : Nat → Nat → Nat

end Sys2Proof.Config
end

