-- ==== Sys2Proof/Syntax.lean ====
section
/-! DEFINITION. The commands of the part: one constructor of `Instr` for each row of
spec/opcode_table.json, with the fields its frame carries (R204, R205) or the station or slot it is about.
A management request taken from the input queue (R173) carries no operand here: its tag and parameters
came with the MGMT frame (log 14). -/

namespace Sys2Proof

/-- A station number, 0 to 15 (00 "Stations"). -/
abbrev Station := Fin 16

/-- A hold slot number, 0 to 31 (R107). -/
abbrev SlotNo := Fin 32

/-- The commands, in the table's order. -/
inductive Instr where
  /-- START (R32): sheets per set, sets, sides per sheet, size class, colour mode, last-job flag. -/
  | start (st : Station) (sheetsPerSet sets : Half) (sides size colour lastJob : Byte)
  /-- FEED (R39): ordinal, size class, colour mode (FF: absent). -/
  | feed (st : Station) (ordinal : Half) (size colour : Byte)
  /-- EXIT (R42): ordinal. -/
  | exit (st : Station) (ordinal : Half)
  /-- JAM (R55): the ordinals the engine names. -/
  | jam (st : Station) (ordinals : List Half)
  /-- CLEAR (R65): items of an ordinal and an outcome code. -/
  | clear (st : Station) (items : List (Half × Byte))
  /-- STOP (R49). -/
  | stop (st : Station)
  /-- KEYIN (R14): account number, PIN check value. -/
  | keyin (st : Station) (account : Amount24) (pin : Half)
  /-- LOGOUT (R19). -/
  | logout (st : Station)
  /-- SERVICE (R159): the opaque payload. -/
  | service (st : Station) (payload : List Byte)
  /-- CARD (R15): the card token. -/
  | card (st : Station) (token : List Byte)
  /-- CARD_OUT (R16). -/
  | cardOut (st : Station)
  /-- STATION_BAD_FRAME (R152). -/
  | stationBadFrame (st : Station)
  /-- STATION_UNROUTED_FRAME (R158): the endpoint code and kind code of the frame. -/
  | stationUnroutedFrame (st : Station) (endpoint kind : Byte)
  /-- STATION_CARRIER_LOSS (R153). -/
  | stationCarrierLoss (st : Station)
  /-- STATION_CARRIER_RETURN (R7). -/
  | stationCarrierReturn (st : Station)
  /-- STATION_TRANSMIT_START (R151). -/
  | stationTransmitStart (st : Station)
  /-- STATION_FRAME_SENT (R151). -/
  | stationFrameSent (st : Station)
  /-- DOZE_TIMER_EXPIRY (R11). -/
  | dozeTimerExpiry (st : Station)
  /-- IDLE_TIMER_EXPIRY (R18). -/
  | idleTimerExpiry (st : Station)
  /-- WAIT_TIMER_EXPIRY (R47). -/
  | waitTimerExpiry (st : Station)
  /-- JAM_TIMER_EXPIRY (R58). -/
  | jamTimerExpiry (st : Station)
  /-- AUTH_RESULT (R113): slot reference, approved amount, lifetime in minutes, and the gateway reference
  if the frame is of ten bytes (R205). -/
  | authResult (slot generation : Byte) (approved : Amount24) (lifetime : Byte) (reference : Option Reference)
  /-- RENEW_RESULT (R124): slot reference, approved amount, lifetime in minutes. -/
  | renewResult (slot generation : Byte) (approved : Amount24) (lifetime : Byte)
  /-- CAPTURE_DONE (R128): slot reference, outcome code. -/
  | captureDone (slot generation outcome : Byte)
  /-- VOID_DONE (R128): slot reference. -/
  | voidDone (slot generation : Byte)
  /-- TEXT_DOWN (R161): station code and text. -/
  | textDown (station : Byte) (text : List Byte)
  /-- MGMT (R172): tag, request kind, parameters. -/
  | mgmt (tag : Half) (kind : Byte) (params : List Byte)
  /-- UPLINK_BAD_FRAME (R162). -/
  | uplinkBadFrame
  /-- UPLINK_UNROUTED_FRAME (R163): the kind code of the frame. -/
  | uplinkUnroutedFrame (kind : Byte)
  /-- UPLINK_CARRIER_LOSS (R166). -/
  | uplinkCarrierLoss
  /-- UPLINK_CARRIER_RETURN (R167). -/
  | uplinkCarrierReturn
  /-- ARBITER_CHOICE (R164). -/
  | arbiterChoice
  /-- UPLINK_FRAME_SENT (R165). -/
  | uplinkFrameSent
  /-- AUTH_TIMEOUT (R118). -/
  | authTimeout (slot : SlotNo)
  /-- RENEW_TIMEOUT (R125). -/
  | renewTimeout (slot : SlotNo)
  /-- FINAL_REQUEST_TIMEOUT (R128). -/
  | finalRequestTimeout (slot : SlotNo)
  /-- LAPSE_TIMER_EXPIRY (R120). -/
  | lapseTimerExpiry (slot : SlotNo)
  /-- TIMEBASE_TICK (R121, R1). -/
  | timebaseTick
  /-- HOLD_EXPIRY (R126). -/
  | holdExpiry (slot : SlotNo)
  /-- AUTH_APPROVAL_REPORT (R16). -/
  | authApprovalReport (st : Station)
  /-- AUTH_DECLINE_REPORT (R16). -/
  | authDeclineReport (st : Station)
  /-- AUTH_TIMEOUT_REPORT (R16). -/
  | authTimeoutReport (st : Station)
  /-- HOLD_EXPIRY_REPORT (R21). -/
  | holdExpiryReport (st : Station)
  /-- RENEWAL_APPROVAL_REPORT (R45). -/
  | renewalApprovalReport (st : Station)
  /-- RENEWAL_REFUSAL_REPORT (R46). -/
  | renewalRefusalReport (st : Station)
  /-- ACCOUNT_REFILL (R91). -/
  | accountRefill (st : Station)
  /-- REFILL_ANSWER (R41). -/
  | refillAnswer (st : Station)
  /-- WAITING_LIST_GRANT (R45). -/
  | waitingListGrant (st : Station)
  /-- ACCOUNT_CLOSE_REPORT (R100). -/
  | accountCloseReport (st : Station)
  /-- REPORT_OFFER_RETRY (R147). -/
  | reportOfferRetry (st : Station)
  /-- ACCOUNT_PUT (R101, R102). -/
  | accountPut
  /-- ACCOUNT_DELETE (R104). -/
  | accountDelete
  /-- ACCOUNT_GET (R105). -/
  | accountGet
  /-- ACCOUNT_STATE (R98, R99, R100). -/
  | accountState
  /-- ACCOUNT_CREDIT (R103). -/
  | accountCredit
  /-- TARIFF_LOAD (R77). -/
  | tariffLoad
  /-- TARIFF_SELECT (R78). -/
  | tariffSelect
  /-- CONFIG_SET (R180). -/
  | configSet
  /-- CONFIG_GET (R182). -/
  | configGet
  /-- STATION_GET (R183). -/
  | stationGet
  /-- STATION_CONFIG (R156). -/
  | stationConfig
  /-- STATION_SERVICE (R8). -/
  | stationService
  /-- STATION_RESET (R9). -/
  | stationReset
  /-- STATION_WAKE (R13). -/
  | stationWake
  /-- STATION_CLEAR (R25). -/
  | stationClear
  /-- HOLD_GET (R131). -/
  | holdGet
  /-- PERIOD_CLOSE (R135). -/
  | periodClose
  /-- NOTICE_ENABLE (R196). -/
  | noticeEnable
  /-- NOTICE_CLEAR (R197). -/
  | noticeClear
  /-- RESTART (R189). -/
  | restart
  /-- UNKNOWN_REQUEST (R178). -/
  | unknownRequest
  /-- RESET_ASSERTED (R168). -/
  | resetAsserted
  /-- RESET_RELEASED (R168). -/
  | resetReleased
  /-- STATION_START_DELIMITER (R151). -/
  | stationStartDelimiter (st : Station)
  /-- UPLINK_START_DELIMITER (R162). -/
  | uplinkStartDelimiter
  deriving DecidableEq, Repr

end Sys2Proof
end

