-- ==== Sys2Proof/WellFormed.lean ====
section
/-! DEFINITION. Which commands a line can carry: the length checks of R152, R204 and R205 on the fields
that are lists, and for the unrouted frames that they are not frames the classifier routes (R158, R163).
A command that is not well formed stands for a frame with a bad length, and the machine takes it as one
(log 18). -/

namespace Sys2Proof

/-- The endpoint code ENGINE (R204). -/
def endpointEngine : Byte := 0x01#8
/-- The endpoint code CARD (R204). -/
def endpointCard : Byte := 0x02#8
/-- The endpoint code NODE (R204). -/
def endpointNode : Byte := 0x03#8

/-- R158: the eleven pairs of endpoint and kind that a station may send (R204, codes 01 to 11). -/
def routedPair (endpoint kind : Byte) : Bool :=
  (endpoint == endpointEngine && (0x01#8 ≤ kind && kind ≤ 0x09#8)) ||
  (endpoint == endpointCard && (kind == 0x10#8 || kind == 0x11#8))

/-- R163: the six kinds the counter controller may send (R205). -/
def routedUplinkKind (kind : Byte) : Bool :=
  kind == 0x60#8 || kind == 0x61#8 || kind == 0x62#8 || kind == 0x63#8 || kind == 0x68#8 || kind == 0x69#8

/-- A list that a SERVICE, a TEXT or a TEXT_DOWN may carry: 1 to 48 bytes (R159, R161). -/
def textFits (bytes : List Byte) : Bool :=
  1 ≤ bytes.length && bytes.length ≤ Config.textLimit

/-- The checks on a command's fields. -/
def Instr.wf : Instr → Bool
  | .jam _ ordinals => ordinals.length ≤ Config.listLimit
  | .clear _ items => items.length ≤ Config.listLimit
  | .service _ payload => textFits payload
  | .card _ token => token.length == Config.tokenLength
  | .textDown _ text => textFits text
  | .mgmt _ _ params => params.length ≤ Config.paramLimit
  | .stationUnroutedFrame _ endpoint kind => !routedPair endpoint kind
  | .uplinkUnroutedFrame kind => !routedUplinkKind kind
  | .start .. | .feed .. | .exit .. | .stop .. | .keyin .. | .logout .. | .cardOut ..
  | .stationBadFrame .. | .stationCarrierLoss .. | .stationCarrierReturn ..
  | .stationTransmitStart .. | .stationFrameSent ..
  | .dozeTimerExpiry .. | .idleTimerExpiry .. | .waitTimerExpiry .. | .jamTimerExpiry ..
  | .authResult .. | .renewResult .. | .captureDone .. | .voidDone ..
  | .uplinkBadFrame | .uplinkCarrierLoss | .uplinkCarrierReturn | .arbiterChoice | .uplinkFrameSent
  | .authTimeout .. | .renewTimeout .. | .finalRequestTimeout .. | .lapseTimerExpiry ..
  | .timebaseTick | .holdExpiry ..
  | .authApprovalReport .. | .authDeclineReport .. | .authTimeoutReport .. | .holdExpiryReport ..
  | .renewalApprovalReport .. | .renewalRefusalReport ..
  | .accountRefill .. | .refillAnswer .. | .waitingListGrant .. | .accountCloseReport ..
  | .reportOfferRetry ..
  | .accountPut | .accountDelete | .accountGet | .accountState | .accountCredit
  | .tariffLoad | .tariffSelect | .configSet | .configGet
  | .stationGet | .stationConfig | .stationService | .stationReset | .stationWake | .stationClear
  | .holdGet | .periodClose | .noticeEnable | .noticeClear | .restart | .unknownRequest
  | .resetAsserted | .resetReleased | .stationStartDelimiter .. | .uplinkStartDelimiter => true

end Sys2Proof
end

