-- ==== Sys2Proof/Decode.lean ====
section
/-! DEFINITION. From bits to commands. The table gives none of its rows bits, so `decodeTableWord` spells
no command. What the spec does give is the bytes on the lines: the receiver of R201 with the checks of R152,
R162, R204 and R205, the check sequence of R202, the layouts of the inbound frames, and after them the
encoder of the same frames. -/

namespace Sys2Proof

/-- The rows of the table give no bits, so no word spells a command. -/
def decodeTableWord (_nbits _w : Nat) : Option Instr := none

/-! ### Fields of several bytes, most significant byte first (R203) -/

/-- Two bytes as a field. -/
def half (hi lo : Byte) : Half := hi ++ lo

/-- Three bytes as a field. -/
def amount24 (b2 b1 b0 : Byte) : Amount24 := b2 ++ b1 ++ b0

/-- Four bytes as a field. -/
def reference32 (b3 b2 b1 b0 : Byte) : Reference := b3 ++ b2 ++ b1 ++ b0

/-- The bytes of a two-byte field. -/
def halfBytes (h : Half) : List Byte := [h.extractLsb' 8 8, h.extractLsb' 0 8]

/-- The bytes of a three-byte field. -/
def amountBytes (a : Amount24) : List Byte := [a.extractLsb' 16 8, a.extractLsb' 8 8, a.extractLsb' 0 8]

/-- The bytes of a four-byte field. -/
def wordBytes (w : BitVec 32) : List Byte :=
  [w.extractLsb' 24 8, w.extractLsb' 16 8, w.extractLsb' 8 8, w.extractLsb' 0 8]

/-! ### The check sequence (R202) -/

/-- R202: one message bit taken into the remainder. -/
def crcBit (rem : Half) (bit : Bool) : Half :=
  if rem.msb != bit then (rem <<< 1) ^^^ 0x1021#16 else rem <<< 1

/-- R202: one byte, most significant bit first. -/
def crcByte (rem : Half) (b : Byte) : Half :=
  [7, 6, 5, 4, 3, 2, 1, 0].foldl (fun r i => crcBit r (b.getLsbD i)) rem

/-- R202: the check sequence over the length, header and payload bytes. -/
def checkSequence (bytes : List Byte) : Half := bytes.foldl crcByte 0xFFFF#16

/-- The start delimiter (R201). -/
def startDelimiter : Byte := 0x7E#8

/-! ### Good frames as commands -/

/-- The ordinals of a JAM list, two bytes each (R204). -/
def ordinalsOf : List Byte → List Half
  | hi :: lo :: rest => half hi lo :: ordinalsOf rest
  | _ => []

/-- The items of a CLEAR list, an ordinal and an outcome each (R204). -/
def itemsOf : List Byte → List (Half × Byte)
  | hi :: lo :: outcome :: rest => (half hi lo, outcome) :: itemsOf rest
  | _ => []

/-- R204: a JAM payload is a count of at most 8 and that many ordinals; any other length is bad. -/
def decodeJam (st : Station) : List Byte → Instr
  | n :: rest =>
    if n.toNat ≤ Config.listLimit ∧ rest.length = 2 * n.toNat then .jam st (ordinalsOf rest) else .stationBadFrame st
  | [] => .stationBadFrame st

/-- R204: a CLEAR payload is a count of at most 8 and that many items; any other length is bad. -/
def decodeClear (st : Station) : List Byte → Instr
  | n :: rest =>
    if n.toNat ≤ Config.listLimit ∧ rest.length = 3 * n.toNat then .clear st (itemsOf rest) else .stationBadFrame st
  | [] => .stationBadFrame st

/-- R204: the frames of the ENGINE endpoint by kind code, with the fourth check of R152. -/
def decodeEngine (st : Station) (kind : Byte) (payload : List Byte) : Instr :=
  if kind = 0x01#8 then
    match payload with
    | [a, b, c, d, sides, size, colour, last] => .start st (half a b) (half c d) sides size colour last
    | _ => .stationBadFrame st
  else if kind = 0x02#8 then
    match payload with
    | [a, b, size, colour] => .feed st (half a b) size colour
    | _ => .stationBadFrame st
  else if kind = 0x03#8 then
    match payload with
    | [a, b] => .exit st (half a b)
    | _ => .stationBadFrame st
  else if kind = 0x04#8 then decodeJam st payload
  else if kind = 0x05#8 then decodeClear st payload
  else if kind = 0x06#8 then
    match payload with
    | [] => .stop st
    | _ => .stationBadFrame st
  else if kind = 0x07#8 then
    match payload with
    | [a, b, c, d, e] => .keyin st (amount24 a b c) (half d e)
    | _ => .stationBadFrame st
  else if kind = 0x08#8 then
    match payload with
    | [] => .logout st
    | _ => .stationBadFrame st
  else if kind = 0x09#8 then
    if textFits payload then .service st payload else .stationBadFrame st
  else .stationUnroutedFrame st endpointEngine kind

/-- R204: the frames of the CARD endpoint by kind code, with the fourth check of R152. -/
def decodeCard (st : Station) (kind : Byte) (payload : List Byte) : Instr :=
  if kind = 0x10#8 then
    if payload.length = Config.tokenLength then .card st payload else .stationBadFrame st
  else if kind = 0x11#8 then
    match payload with
    | [] => .cardOut st
    | _ => .stationBadFrame st
  else .stationUnroutedFrame st endpointCard kind

/-- R204, R158: what a station frame that passed the first three checks of R152 comes to. -/
def decodeStationFrame (st : Station) (endpoint kind : Byte) (payload : List Byte) : Instr :=
  if endpoint = endpointEngine then decodeEngine st kind payload
  else if endpoint = endpointCard then decodeCard st kind payload
  else .stationUnroutedFrame st endpoint kind

/-- R205, R163: what an uplink frame that passed the first three checks comes to. -/
def decodeUplinkFrame (kind : Byte) (payload : List Byte) : Instr :=
  if kind = 0x60#8 then
    match payload with
    | [slot, gen, a, b, c, life] => .authResult slot gen (amount24 a b c) life none
    | [slot, gen, a, b, c, life, r3, r2, r1, r0] =>
      .authResult slot gen (amount24 a b c) life (some (reference32 r3 r2 r1 r0))
    | _ => .uplinkBadFrame
  else if kind = 0x61#8 then
    match payload with
    | [slot, gen, a, b, c, life] => .renewResult slot gen (amount24 a b c) life
    | _ => .uplinkBadFrame
  else if kind = 0x62#8 then
    match payload with
    | [slot, gen, outcome] => .captureDone slot gen outcome
    | _ => .uplinkBadFrame
  else if kind = 0x63#8 then
    match payload with
    | [slot, gen] => .voidDone slot gen
    | _ => .uplinkBadFrame
  else if kind = 0x68#8 then
    match payload with
    | a :: b :: req :: params => if params.length ≤ Config.paramLimit then .mgmt (half a b) req params else .uplinkBadFrame
    | _ => .uplinkBadFrame
  else if kind = 0x69#8 then
    match payload with
    | station :: text => if textFits text then .textDown station text else .uplinkBadFrame
    | [] => .uplinkBadFrame
  else .uplinkUnroutedFrame kind

/-! ### The receiver of a line (R201) -/

/-- The line a receiver listens to. -/
inductive Line where
  /-- A station link; the port gives the station (00 "Stations"). -/
  | station (st : Station)
  /-- The uplink. -/
  | uplink
  deriving DecidableEq, Repr

/-- What reaches a receiver: a byte, or the line falling idle for more than two character times (R152). -/
inductive LineEvent where
  | byte (b : Byte)
  | idleGap
  deriving DecidableEq, Repr

/-- The receiver with the bytes of the frame it has taken so far, the delimiter left out (R201). -/
inductive Rx where
  | waiting
  | receiving (taken : List Byte)
  deriving DecidableEq, Repr

/-- The payload limit of a line (R152, R162). -/
def Line.payloadLimit : Line → Nat
  | .station _ => Config.stationPayloadLimit
  | .uplink => Config.uplinkPayloadLimit

/-- The header bytes of a line's frames (the envelope table of chapter 11). -/
def Line.headerLength : Line → Nat
  | .station _ => 2
  | .uplink => 1

/-- The command that a start delimiter taken by a waiting receiver is (R151, R162). -/
def Line.delimiterCommand : Line → Instr
  | .station st => .stationStartDelimiter st
  | .uplink => .uplinkStartDelimiter

/-- The command that a bad frame is (R152, R162). -/
def Line.badCommand : Line → Instr
  | .station st => .stationBadFrame st
  | .uplink => .uplinkBadFrame

/-- The command that the header and payload of a frame with a good check come to. -/
def Line.decodeBody (line : Line) (body : List Byte) : Instr :=
  match line, body with
  | .station st, endpoint :: kind :: payload => decodeStationFrame st endpoint kind payload
  | .uplink, kind :: payload => decodeUplinkFrame kind payload
  | l, _ => l.badCommand

/-- R152, R202: the command a whole frame comes to, from its length byte to its check sequence. -/
def Line.finishFrame (line : Line) (taken : List Byte) : Instr :=
  let covered := taken.take (taken.length - 2)
  if taken.drop (taken.length - 2) = halfBytes (checkSequence covered) then line.decodeBody (covered.drop 1)
  else line.badCommand

/-- R201: the bytes of a frame from its length byte on, when that byte is `n`. -/
def Line.frameLength (line : Line) (n : Byte) : Nat := 1 + line.headerLength + n.toNat + 2

/-- R201: one event at a receiver, and the commands it gives rise to. -/
def Line.receive (line : Line) : Rx → LineEvent → Rx × List Instr
  | .waiting, .idleGap => (.waiting, [])
  | .waiting, .byte b => if b = startDelimiter then (.receiving [], [line.delimiterCommand]) else (.waiting, [])
  | .receiving _, .idleGap => (.waiting, [line.badCommand])
  | .receiving [], .byte b =>
    if b.toNat > line.payloadLimit then (.waiting, [line.badCommand]) else (.receiving [b], [])
  | .receiving (n :: rest), .byte b =>
    let taken := n :: rest ++ [b]
    if taken.length < line.frameLength n then (.receiving taken, []) else (.waiting, [line.finishFrame taken])

/-- A run of the receiver over the events of a line. -/
def Line.receiveAll (line : Line) : Rx → List LineEvent → Rx × List Instr
  | rx, [] => (rx, [])
  | rx, e :: rest =>
    let (rx1, out) := line.receive rx e
    let (rx2, more) := line.receiveAll rx1 rest
    (rx2, out ++ more)

/-! ### The encoder of the inbound frames (R204, R205) -/

/-- The payload bytes of a JAM's ordinals. -/
def ordinalBytes : List Half → List Byte
  | [] => []
  | o :: rest => halfBytes o ++ ordinalBytes rest

/-- The payload bytes of a CLEAR's items. -/
def itemBytes : List (Half × Byte) → List Byte
  | [] => []
  | (o, outcome) :: rest => halfBytes o ++ outcome :: itemBytes rest

/-- The line, header and payload of the frame that a command stands for; none for a command that is no
frame. -/
def encodeParts : Instr → Option (Line × List Byte × List Byte)
  | .start st sheets sets sides size colour last =>
    some (.station st, [endpointEngine, 0x01#8], halfBytes sheets ++ halfBytes sets ++ [sides, size, colour, last])
  | .feed st ordinal size colour => some (.station st, [endpointEngine, 0x02#8], halfBytes ordinal ++ [size, colour])
  | .exit st ordinal => some (.station st, [endpointEngine, 0x03#8], halfBytes ordinal)
  | .jam st ordinals =>
    some (.station st, [endpointEngine, 0x04#8], BitVec.ofNat 8 ordinals.length :: ordinalBytes ordinals)
  | .clear st items => some (.station st, [endpointEngine, 0x05#8], BitVec.ofNat 8 items.length :: itemBytes items)
  | .stop st => some (.station st, [endpointEngine, 0x06#8], [])
  | .keyin st account pin => some (.station st, [endpointEngine, 0x07#8], amountBytes account ++ halfBytes pin)
  | .logout st => some (.station st, [endpointEngine, 0x08#8], [])
  | .service st payload => some (.station st, [endpointEngine, 0x09#8], payload)
  | .card st token => some (.station st, [endpointCard, 0x10#8], token)
  | .cardOut st => some (.station st, [endpointCard, 0x11#8], [])
  | .authResult slot gen approved life none => some (.uplink, [0x60#8], [slot, gen] ++ amountBytes approved ++ [life])
  | .authResult slot gen approved life (some ref) =>
    some (.uplink, [0x60#8], [slot, gen] ++ amountBytes approved ++ [life] ++ wordBytes ref)
  | .renewResult slot gen approved life => some (.uplink, [0x61#8], [slot, gen] ++ amountBytes approved ++ [life])
  | .captureDone slot gen outcome => some (.uplink, [0x62#8], [slot, gen, outcome])
  | .voidDone slot gen => some (.uplink, [0x63#8], [slot, gen])
  | .mgmt tag kind params => some (.uplink, [0x68#8], halfBytes tag ++ kind :: params)
  | .textDown station text => some (.uplink, [0x69#8], station :: text)
  | _ => none

/-- The envelope (R201): delimiter, length, header, payload, check sequence. -/
def envelope (header payload : List Byte) : List Byte :=
  let covered := BitVec.ofNat 8 payload.length :: header ++ payload
  startDelimiter :: covered ++ halfBytes (checkSequence covered)

/-- The line and the bytes of the frame that a command stands for. -/
def encodeFrame (i : Instr) : Option (Line × List Byte) :=
  match encodeParts i with
  | some (line, header, payload) => some (line, envelope header payload)
  | none => none

end Sys2Proof
end

