-- ==== Sys2Proof/Machine/State.lean ====
section
/-! DEFINITION. The state of the part as plain data: every register, queue, list, timer, flag and pin the
spec names (INVENTORY.md lists them with their rules), the messages that are under way between its blocks,
and the queue of the commands that wait. `Device.powerOn` is the power-on state that R2, R72, R82, R107, R133,
R150, R155, R162, R171 and R191 give, and `State.reset` the state at the release of RESET. -/

namespace Sys2Proof.Machine

/-! ### Prices and papers -/

/-- Colour modes, numbered 0 and 1 (00 "Size classes and colour modes"). -/
inductive ColourMode where
  | mono
  | colour
  deriving DecidableEq, Repr

/-- Size classes SMALL, STANDARD, LARGE, OVERSIZE, numbered 0 to 3 (00). -/
abbrev SizeClass := Fin 4

/-- Price classes, 0 to 7 (00 "Price classes"). -/
abbrev PriceClass := Fin 8

/-- The two tariff banks (R72). -/
inductive BankName where
  | bankA
  | bankB
  deriving DecidableEq, Repr

/-- One bank (R72): side prices in price-class order, whether it is LOADED, its reference count. -/
structure Bank where
  prices : Vector Half 8
  loaded : Bool
  refCount : Nat
  deriving DecidableEq, Repr

/-- The tariff unit (R72). -/
structure Tariff where
  bankA : Bank
  bankB : Bank
  selector : BankName
  deriving DecidableEq, Repr

/-! ### Reasons and codes (R207) -/

/-- Why a station is OFFLINE (R2). -/
inductive OfflineReason where
  | carrier
  | service
  deriving DecidableEq, Repr

/-- Session end reasons (R143, R207). -/
inductive EndReason where
  | logout
  | cardOut
  | idle
  | auto
  | fundsEnded
  | holdExpired
  | accountClosed
  | reset
  | carrier
  | outOfService
  deriving DecidableEq, Repr

/-- Job end reasons (R50). -/
inductive JobEndReason where
  | complete
  | stopped
  | replaced
  | funds
  | abandoned
  | lost
  deriving DecidableEq, Repr

/-- PAUSE reasons (R31). -/
inductive PauseReason where
  | funds
  | pathFull
  deriving DecidableEq, Repr

/-- DENY reasons (R207). -/
inductive DenyReason where
  | noSession
  | busy
  | badJob
  | notAllowed
  | noFunds
  | noTariff
  | noAccount
  | badPin
  | stopped
  | closed
  | outOfService
  deriving DecidableEq, Repr

/-- CARD_DECLINED reasons (R207). -/
inductive CardReason where
  | declined
  | timeout
  | busy
  | noTariff
  | outOfService
  deriving DecidableEq, Repr

/-- Statuses of a REPLY (R177). -/
inductive Status where
  | ok
  | busy
  | inUse
  | notFound
  | full
  | badValue
  | closed
  | unknown
  deriving DecidableEq, Repr

/-- The twelve notice classes (R192). -/
inductive NoticeClass where
  | holdExpired
  | paymentUnconfirmed
  | shortfall
  | jamAbandoned
  | jam
  | carrier
  | accountStopped
  | uplinkDrop
  | protocol
  | link
  | exportDone
  | touch
  deriving DecidableEq, Repr

/-! ### The session engine (R2, R3, R25 to R27) -/

/-- A slot reference: slot number and generation (00 "Slot references"). -/
structure SlotRef where
  slot : SlotNo
  generation : Byte
  deriving DecidableEq, Repr

/-- The state to which a jammed station returns (R55). -/
inductive Resume where
  | running
  | held
  | closing
  deriving DecidableEq, Repr

/-- The nine states of a station, each with the field that is present in it alone (R2). -/
inductive StationState where
  | offline (reason : OfflineReason)
  | doze
  | idle
  | funding (pendingSlot : SlotRef)
  | opened
  | running
  | held
  | jammed (resume : Resume)
  | closing
  deriving DecidableEq, Repr

/-- Funding kind and funding identity of a session (R3). -/
inductive Funding where
  | account (number : Nat)
  | card (ref : SlotRef)
  deriving DecidableEq, Repr

/-- The session record (R3). -/
structure Session where
  funding : Funding
  bank : BankName
  committedSides : Vector Count 8
  amountCommitted : Count
  jobs : Count
  spoiled : Count
  forgiven : Count
  untracked : Count
  shortfallSides : Count
  shortfallAmount : Count
  deriving DecidableEq, Repr

/-- What a job has asked for and not yet had (R27). -/
inductive FundsRequest where
  | none
  | refill
  | waiting
  | renew
  deriving DecidableEq, Repr

/-- The job record (R27). `draw` is absent for a card session, `endReason` until the job ends. -/
structure Job where
  sheetsPerSet : Nat
  sets : Nat
  sides : Nat
  size : SizeClass
  colour : ColourMode
  lastJob : Bool
  inner : Nat
  outer : Nat
  fed : Count
  delivered : Count
  spoiled : Count
  forgiven : Count
  surplus : Count
  untracked : Count
  stopPending : Bool
  allowance : Nat
  draw : Option Nat
  fundsRequest : FundsRequest
  fundsEnded : Bool
  endReason : Option JobEndReason
  deriving DecidableEq, Repr

/-- The five sticky faults (R25). -/
structure Faults where
  linkError : Bool
  protocol : Bool
  pathFull : Bool
  uplinkDrop : Bool
  shortfall : Bool
  deriving DecidableEq, Repr

/-- The eleven meters (R26). -/
structure Meters where
  deliveredSides : Vector Count 8
  spoiledSheets : Count
  jams : Count
  jobsCompleted : Count
  deriving DecidableEq, Repr

/-- The account table's answer to a refill (R41, R91). -/
inductive RefillReply where
  | granted (draw : Nat)
  | waiting
  | refused
  deriving DecidableEq, Repr

/-- A message of the account table toward one context (R86), naming the account it is about. A refill's answer is
`refill` while the job that asked lives, `lateRefill` from that job's end on (R48, log 12). -/
inductive AccountMail where
  | refill (number : Nat) (answer : RefillReply)
  | lateRefill (number : Nat) (answer : RefillReply)
  | grant (number : Nat) (draw : Nat)
  | closed (number : Nat)
  deriving DecidableEq, Repr

/-- A refill request sent toward the account table and not yet taken by it (R41, R91). -/
structure RefillAsk where
  number : Nat
  oneSheetPrice : Nat
  deriving DecidableEq, Repr

/-- A session context (R2), with the messages under way between it and other blocks: a refill asked (R41),
the account table's messages in the order produced (R86), and the report queue's word that room has
appeared (R146). A timer is the whole seconds of its count, absent when stopped (R184). -/
structure Context where
  state : StationState
  session : Option Session
  endPending : Option EndReason
  job : Option Job
  dozeTimer : Option Nat
  idleTimer : Option Nat
  waitTimer : Option Nat
  jamTimer : Option Nat
  faults : Faults
  meters : Meters
  refillAsked : Option RefillAsk
  accountMail : List AccountMail
  roomTold : Bool
  deriving DecidableEq, Repr

/-! ### The path tracker (R52, R53) -/

/-- Whether the engine's latest JAM named an entry (R53). -/
inductive JamMark where
  | named
  | missing
  deriving DecidableEq, Repr

/-- A path entry (R53). -/
structure PathEntry where
  ordinal : Half
  sides : Nat
  size : SizeClass
  colour : ColourMode
  price : Nat
  provisional : Nat
  funded : Bool
  surplus : Bool
  mark : Option JamMark
  deriving DecidableEq, Repr

/-! ### Station ports and configuration records (R150, R155) -/

/-- Frames the part sends to a station (R150, R204). -/
inductive StationFrame where
  | go (allowance : Nat)
  | pause (reason : PauseReason)
  | deny (reason : DenyReason)
  | jobEnd (reason : JobEndReason)
  | sessionEnd (reason : EndReason)
  | balance (amount : Nat)
  | sleep
  | wake
  | cardAccepted
  | cardDeclined (reason : CardReason)
  | text (bytes : List Byte)
  deriving DecidableEq, Repr

/-- A receiver (R150, R162). -/
inductive Receiver where
  | waiting
  | receiving
  deriving DecidableEq, Repr

/-- A station port's transmitter (R150). -/
inductive PortTransmitter where
  | idle
  | sending (frame : StationFrame)
  deriving DecidableEq, Repr

/-- A station port (R150); `carrier` says PRESENT. -/
structure Port where
  carrier : Bool
  receiver : Receiver
  ownQueue : List StationFrame
  textQueue : List (List Byte)
  transmitter : PortTransmitter
  deriving DecidableEq, Repr

/-- Jam policies (R67). -/
inductive JamPolicy where
  | charge
  | forgive
  deriving DecidableEq, Repr

/-- Forward filters (R155). -/
inductive ForwardFilter where
  | pass
  | block
  deriving DecidableEq, Repr

/-- The wake classes (R12). -/
inductive WakeClass where
  | card
  | keyin
  | engineOther
  deriving DecidableEq, Repr

/-- A wake mask: which of the three classes it holds (R155). -/
structure WakeMask where
  card : Bool
  keyin : Bool
  engineOther : Bool
  deriving DecidableEq, Repr

/-- A per-station configuration record (R155). -/
structure StationConfig where
  inService : Bool
  jamPolicy : JamPolicy
  forward : ForwardFilter
  wakeMask : WakeMask
  deriving DecidableEq, Repr

/-- An item of the SERVICE_UP queue (R159). -/
structure ServiceItem where
  station : Station
  payload : List Byte
  deriving DecidableEq, Repr

/-! ### The account table (R82 to R84, R92, R133) -/

/-- Account states (R97). -/
inductive AccountState where
  | active
  | stopped
  | closed
  deriving DecidableEq, Repr

/-- A period record (R84). -/
structure PeriodRecord where
  sides : Vector Count 8
  amount : Count
  sessions : Count
  deriving DecidableEq, Repr

/-- An item of a waiting list (R92). -/
structure WaitItem where
  station : Station
  oneSheetPrice : Nat
  deriving DecidableEq, Repr

/-- An account entry (R83). -/
structure Account where
  number : Nat
  pin : Half
  limit : Nat
  spent : Nat
  draws : Nat
  state : AccountState
  pinFailures : Nat
  colourPermitted : Bool
  maxSize : SizeClass
  openSessions : Nat
  waiting : List WaitItem
  live : PeriodRecord
  closedRecord : PeriodRecord
  deriving DecidableEq, Repr

/-- The one frame the export walk has built and not yet seen sent (R133). -/
inductive ExportFrame where
  | bill (period : Half) (number : Nat) (record : PeriodRecord)
  | finish (period : Half) (billsSent : Nat)
  deriving DecidableEq, Repr

/-- The period number and the export state (R133). -/
structure Exporting where
  period : Half
  running : Bool
  exportedPeriod : Half
  cursor : Nat
  billsExpected : Nat
  billsSent : Nat
  frame : Option ExportFrame
  deriving DecidableEq, Repr

/-! ### The payment unit (R107 to R114) -/

/-- The eight slot states (R108). -/
inductive SlotState where
  | free
  | authorizing
  | lapsed
  | active
  | renewing
  | expired
  | capturing
  | voiding
  deriving DecidableEq, Repr

/-- Kinds of payment request (R107). -/
inductive RequestKind where
  | auth
  | renew
  | capture
  | void
  deriving DecidableEq, Repr

/-- The place of a payment request; OUTSTANDING with the seconds of its timer's count (R107, R111). -/
inductive Place where
  | queued
  | outstanding (timer : Nat)
  deriving DecidableEq, Repr

/-- A slot's payment request (R107): its kind, its place, for RENEW the funds mark, and for CAPTURE the
amount fixed at finalize (R127), 0 for the others. -/
structure Request where
  kind : RequestKind
  place : Place
  funds : Bool
  amount : Nat
  deriving DecidableEq, Repr

/-- A final request that waits for a renewal to end (R107, R127). -/
inductive FinalRequest where
  | capture (amount : Nat)
  | void
  deriving DecidableEq, Repr

/-- A hold slot (R107); its number is its place in the table. -/
structure Slot where
  generation : Byte
  state : SlotState
  owner : Option Station
  token : Option (List Byte)
  asked : Option Nat
  reference : Option Reference
  approved : Nat
  consumed : Nat
  provisional : Nat
  lifetime : Nat
  renewalsRefused : Bool
  request : Option Request
  finalWaiting : Option FinalRequest
  lapseTimer : Option Nat
  deriving DecidableEq, Repr

/-- An entry of the payment request queue (R110). -/
structure QueueEntry where
  ref : SlotRef
  kind : RequestKind
  deriving DecidableEq, Repr

/-- What the payment unit reports to the session engine (R116 to R118, R124 to R126). -/
inductive ReportKind where
  | approval
  | decline
  | timeout
  | expiry
  | renewalApproval
  | renewalRefusal
  deriving DecidableEq, Repr

/-- A report of the payment unit under way to a station's context. -/
structure PayReport where
  kind : ReportKind
  station : Station
  ref : SlotRef
  deriving DecidableEq, Repr

/-! ### Session reports (R143) -/

/-- Funding kind and identity as a session report carries them: the account number, or the gateway
reference the session's slot holds (R143). -/
inductive ReportFunding where
  | account (number : Nat)
  | card (reference : Option Reference)
  deriving DecidableEq, Repr

/-- A session report (R143). -/
structure Report where
  station : Station
  funding : ReportFunding
  bank : BankName
  committedSides : Vector Count 8
  amountCommitted : Count
  jobs : Count
  spoiled : Count
  forgiven : Count
  untracked : Count
  shortfallSides : Count
  shortfallAmount : Count
  endReason : EndReason
  deriving DecidableEq, Repr

/-! ### The notice unit (R191) -/

/-- The notice unit (R191); the twelve classes by number. -/
structure Notices where
  pending : Vector Bool 12
  enabled : Vector Bool 12
  lastStation : Vector (Option Station) 12
  master : Bool
  waiting : Bool
  deriving DecidableEq, Repr

/-! ### The management unit (R171, R179) -/

/-- The ten configuration parameters (R179), in the table's order; times in the table's units. -/
structure Params where
  drawSize : Nat
  cardHold : Nat
  renewalIncrement : Nat
  renewalMargin : Nat
  authTimeout : Nat
  outstandingLimit : Nat
  idleTime : Nat
  dozeTime : Nat
  jamTime : Nat
  pinFailureLimit : Nat
  deriving DecidableEq, Repr

/-- A management request as it stands in the input queue (R171). -/
structure MgmtRequest where
  tag : Half
  kind : Byte
  params : List Byte
  deriving DecidableEq, Repr

/-- An entry's summary (R105). -/
structure AccountSummary where
  number : Nat
  state : AccountState
  limit : Nat
  spent : Nat
  draws : Nat
  available : Nat
  openSessions : Nat
  waitingLength : Nat
  deriving DecidableEq, Repr

/-- The ENTRY part of an account entry (R105). -/
structure EntryView where
  number : Nat
  pin : Half
  limit : Nat
  spent : Nat
  draws : Nat
  available : Nat
  state : AccountState
  pinFailures : Nat
  colourPermitted : Bool
  maxSize : SizeClass
  openSessions : Nat
  waiting : List Station
  deriving DecidableEq, Repr

/-- The tariff state of a reply (R80). -/
structure TariffView where
  selector : BankName
  loadedA : Bool
  countA : Nat
  loadedB : Bool
  countB : Nat
  deriving DecidableEq, Repr

/-- The export state of a reply (R135, R206). -/
structure ExportView where
  period : Half
  exportedPeriod : Half
  running : Bool
  cursor : Nat
  billsExpected : Nat
  billsSent : Nat
  deriving DecidableEq, Repr

/-- The four timers of a context (R2, R184). -/
inductive TimerName where
  | doze
  | idle
  | wait
  | jam
  deriving DecidableEq, Repr

/-- The STATE view (R184). -/
structure StateView where
  station : Station
  state : StationState
  endPending : Option EndReason
  sessionPresent : Bool
  jobPresent : Bool
  timer : Option (TimerName × Nat)
  faults : Faults
  carrier : Bool
  config : StationConfig
  deriving DecidableEq, Repr

/-- What HOLD_GET returns (R131). -/
structure HoldView where
  number : SlotNo
  generation : Byte
  state : SlotState
  owner : Option Station
  reference : Option Reference
  asked : Option Nat
  approved : Nat
  consumed : Nat
  provisional : Nat
  lifetime : Nat
  renewalsRefused : Bool
  request : Option (RequestKind × Bool × Bool)
  finalWaiting : Option FinalRequest
  outstanding : Nat
  queueLength : Nat
  staleVoids : Nat
  deriving DecidableEq, Repr

/-- The part-wide state of CONFIG_GET (R182). -/
structure ConfigView where
  params : Params
  tariff : Tariff
  accounts : Nat
  exporting : ExportView
  reports : Nat
  reportsOf : Vector Nat 16
  notices : Notices
  deriving DecidableEq, Repr

/-- The data of a REPLY (R206). -/
inductive ReplyData where
  | none
  | summary (a : AccountSummary)
  | entry (e : EntryView)
  | period (number : Nat) (part : Byte) (record : PeriodRecord)
  | tariff (t : TariffView)
  | param (code : Byte) (value : Nat)
  | exporting (e : ExportView)
  | notices (n : Notices)
  | config (c : ConfigView)
  | state (v : StateView)
  | session (st : Station) (record : Option Session)
  | job (st : Station) (record : Option Job)
  | path (st : Station) (entries : List PathEntry)
  | meters (st : Station) (m : Meters)
  | stationConfig (st : Station) (c : StationConfig)
  | hold (h : HoldView)
  deriving DecidableEq, Repr

/-- A REPLY (R173): tag, status, data. -/
structure Reply where
  tag : Half
  status : Status
  data : ReplyData
  deriving DecidableEq, Repr

/-- The management unit (R171). -/
structure Management where
  input : List MgmtRequest
  inHand : Option MgmtRequest
  replies : List Reply
  restartTaken : Bool
  params : Params
  deriving DecidableEq, Repr

/-! ### The uplink port (R162) and its frames (R205) -/

/-- The six sources of the uplink transmitter (R164). -/
inductive Source where
  | reply
  | payment
  | notice
  | sessionReport
  | serviceUp
  | billing
  deriving DecidableEq, Repr

/-- Frames the part sends on the uplink (R205). -/
inductive UplinkFrame where
  | authReq (ref : SlotRef) (station : Option Station) (token : List Byte) (amount : Nat)
  | renewReq (ref : SlotRef) (gateway : Option Reference) (amount : Nat)
  | capture (ref : SlotRef) (gateway : Option Reference) (amount : Nat)
  | void (ref : Option SlotRef) (gateway : Option Reference)
  | sessionReport (r : Report)
  | bill (period : Half) (number : Nat) (record : PeriodRecord)
  | exportEnd (period : Half) (billsSent : Nat)
  | notice (live : Vector Bool 12) (lead : Option (Fin 12)) (lastStation : Vector (Option Station) 12)
  | reply (r : Reply)
  | serviceUp (station : Station) (payload : List Byte)
  deriving DecidableEq, Repr

/-- The uplink transmitter (R162). -/
inductive UplinkTransmitter where
  | free
  | holding (source : Source) (frame : UplinkFrame)
  deriving DecidableEq, Repr

/-- The uplink port (R162); `carrier` says PRESENT. -/
structure Uplink where
  carrier : Bool
  receiver : Receiver
  transmitter : UplinkTransmitter
  deriving DecidableEq, Repr

/-! ### The part -/

/-- Everything of the part: pins, blocks, messages under way, and the counter of the free order (log 8). -/
structure Device where
  carrierDetect : Vector Bool 16
  uplinkDetect : Bool
  resetAsserted : Bool
  contexts : Vector Context 16
  paths : Vector (List PathEntry) 16
  ports : Vector Port 16
  configs : Vector StationConfig 16
  serviceUp : List ServiceItem
  tariff : Tariff
  accounts : List Account
  exporting : Exporting
  slots : Vector Slot 32
  payQueue : List QueueEntry
  outstanding : Nat
  staleVoids : List Reference
  payReports : List PayReport
  reports : List Report
  notices : Notices
  mgmt : Management
  uplink : Uplink
  freeCount : Nat
  deriving DecidableEq, Repr

/-- The part, and the queue of the commands that wait, first in first out. -/
structure State extends Device where
  pending : List Instr
  deriving DecidableEq, Repr

/-- Faults that stop the model. The spec gives the part no event that stops it: every command takes a next
state. The one constructor stands for a halt that no meaning raises (safe: nothing is claimed of it). -/
inductive Fault where
  /-- Raised by no meaning. -/
  | halted
  deriving DecidableEq, Repr

/-- Refusals of the model. -/
inductive Refusal where
  /-- A command that has no meaning yet, by its row's mnemonic; raised by an arm of `exec` alone (safe). -/
  | notModelled (mnemonic : String)
  deriving DecidableEq, Repr

/-! ### Power-on values -/

/-- R26: all meters 0. -/
def Meters.zero : Meters :=
  { deliveredSides := Vector.replicate 8 0, spoiledSheets := 0, jams := 0, jobsCompleted := 0 }

/-- R25: all faults clear. -/
def Faults.clear : Faults :=
  { linkError := false, protocol := false, pathFull := false, uplinkDrop := false, shortfall := false }

/-- R84: the zero record. -/
def PeriodRecord.zero : PeriodRecord := { sides := Vector.replicate 8 0, amount := 0, sessions := 0 }

/-- R179: the defaults. -/
def Params.defaults : Params :=
  { drawSize := 200, cardHold := 1000, renewalIncrement := 1000, renewalMargin := 120, authTimeout := 30
    outstandingLimit := 4, idleTime := 90, dozeTime := 20, jamTime := 15, pinFailureLimit := 5 }

/-- R155: the defaults. -/
def StationConfig.defaults : StationConfig :=
  { inService := true, jamPolicy := .forgive, forward := .pass
    wakeMask := { card := true, keyin := true, engineOther := true } }

/-- R107: a FREE slot that keeps its generation. -/
def Slot.freed (generation : Byte) : Slot :=
  { generation := generation, state := .free, owner := none, token := none, asked := none, reference := none
    approved := 0, consumed := 0, provisional := 0, lifetime := 0, renewalsRefused := false
    request := none, finalWaiting := none, lapseTimer := none }

/-- R72: an EMPTY bank. -/
def Bank.empty : Bank := { prices := Vector.replicate 8 0, loaded := false, refCount := 0 }

/-- R150: a port after reset, its carrier as read. -/
def Port.powerOn (carrier : Bool) : Port :=
  { carrier := carrier, receiver := .waiting, ownQueue := [], textQueue := [], transmitter := .idle }

/-- R2: a context after reset; IDLE with its doze timer running at the default doze time, or
OFFLINE(carrier). -/
def Context.powerOn (carrier : Bool) : Context :=
  { state := if carrier then .idle else .offline .carrier
    session := none, endPending := none, job := none
    dozeTimer := if carrier then some (Params.defaults.dozeTime * 60) else none
    idleTimer := none, waitTimer := none, jamTimer := none
    faults := .clear, meters := .zero, refillAsked := none, accountMail := [], roomTold := false }

/-- The power-on state (R168, R190), its carrier-detect inputs as given. -/
def Device.powerOn (carrierDetect : Vector Bool 16) (uplinkDetect : Bool) (freeCount : Nat) : Device :=
  { carrierDetect := carrierDetect, uplinkDetect := uplinkDetect, resetAsserted := false
    contexts := carrierDetect.map Context.powerOn
    paths := Vector.replicate 16 []
    ports := carrierDetect.map Port.powerOn
    configs := Vector.replicate 16 StationConfig.defaults
    serviceUp := []
    tariff := { bankA := .empty, bankB := .empty, selector := .bankA }
    accounts := []
    exporting := { period := 0, running := false, exportedPeriod := 0, cursor := 0
                   billsExpected := 0, billsSent := 0, frame := none }
    slots := Vector.replicate 32 (Slot.freed 0)
    payQueue := [], outstanding := 0, staleVoids := [], payReports := []
    reports := []
    notices := { pending := Vector.replicate 12 false, enabled := Vector.replicate 12 false
                 lastStation := Vector.replicate 12 none, master := false, waiting := false }
    mgmt := { input := [], inHand := none, replies := [], restartTaken := false, params := .defaults }
    uplink := { carrier := uplinkDetect, receiver := .waiting, transmitter := .free }
    freeCount := freeCount }

/-- The machine right after reset: the power-on state with every carrier-detect input present (DESIGN
CHOICE, log 4), nothing waiting. -/
def State.reset : State :=
  { toDevice := Device.powerOn (Vector.replicate 16 true) true 0, pending := [] }

end Sys2Proof.Machine
end

