-- ==== Sys2Proof/Machine/Flags.lean ====
section
/-! DEFINITION. The flags of the part: the notice classes (R191 to R197) and the sticky faults (R25), and the
one way each is set. -/

namespace Sys2Proof.Machine

/-- The entry `i` of a table replaced by `f` of it. -/
def update {α : Type} {n : Nat} (v : Vector α n) (i : Fin n) (f : α → α) : Vector α n := v.set i (f v[i])

/-- The class numbers of R192. -/
def NoticeClass.index : NoticeClass → Fin 12
  | .holdExpired => 0
  | .paymentUnconfirmed => 1
  | .shortfall => 2
  | .jamAbandoned => 3
  | .jam => 4
  | .carrier => 5
  | .accountStopped => 6
  | .uplinkDrop => 7
  | .protocol => 8
  | .link => 9
  | .exportDone => 10
  | .touch => 11

/-- R191: a class is live when it is pending and enabled, and the master enable is on. -/
def Notices.live (n : Notices) (c : Fin 12) : Bool := n.master && n.pending[c] && n.enabled[c]

/-- The class numbers in order. -/
def classNumbers : List (Fin 12) := [0, 1, 2, 3, 4, 5, 6, 7, 8, 9, 10, 11]

/-- R191: whether the live set is not empty. -/
def Notices.anyLive (n : Notices) : Bool := classNumbers.any n.live

/-- R195: the live set as twelve flags. -/
def Notices.liveSet (n : Notices) : Vector Bool 12 := Vector.ofFn n.live

/-- R195: the lead class, the lowest live class. -/
def Notices.lead (n : Notices) : Option (Fin 12) := classNumbers.find? n.live

/-- R195: the last stations of the live classes, NONE for the others. -/
def Notices.liveStations (n : Notices) : Vector (Option Station) 12 :=
  Vector.ofFn fun c => if n.live c then n.lastStation[c] else none

/-- R193: the taking of one occurrence. -/
def Notices.occur (n : Notices) (c : NoticeClass) (st : Option Station) : Notices :=
  let n1 := { n with lastStation := n.lastStation.set c.index st }
  if n.pending[c.index] then n1
  else
    let n2 := { n1 with pending := n1.pending.set c.index true }
    if n2.live c.index then { n2 with waiting := true } else n2

/-- R196: the effect of a NOTICE_ENABLE that names no class above 11. -/
def Notices.enable (n : Notices) (flags : Vector Bool 12) : Notices :=
  let n1 := { n with enabled := flags, master := true }
  { n1 with waiting := n1.anyLive }

/-- R197: the effect of a NOTICE_CLEAR that names no class above 11. -/
def Notices.clearClasses (n : Notices) (named : Vector Bool 12) : Notices :=
  let n1 := { n with
    pending := Vector.ofFn fun c => n.pending[c] && !named[c]
    lastStation := Vector.ofFn fun c => if n.pending[c] && named[c] then none else n.lastStation[c] }
  { n1 with waiting := n1.waiting && n1.anyLive }

/-- An occurrence of a class reported to the notice unit (R192, R193). -/
def Device.notice (d : Device) (c : NoticeClass) (st : Option Station) : Device :=
  { d with notices := d.notices.occur c st }

/-- A change of one session context. -/
def Device.modCtx (d : Device) (st : Station) (f : Context → Context) : Device :=
  { d with contexts := update d.contexts st f }

/-- A change of one station's sticky faults. -/
def Device.modFaults (d : Device) (st : Station) (f : Faults → Faults) : Device :=
  d.modCtx st fun c => { c with faults := f c.faults }

/-- R25: LINK_ERROR and the LINK notice. -/
def Device.linkFault (d : Device) (st : Station) : Device :=
  (d.modFaults st fun f => { f with linkError := true }).notice .link (some st)

/-- R25: PROTOCOL and the PROTOCOL notice. -/
def Device.protocolFault (d : Device) (st : Station) : Device :=
  (d.modFaults st fun f => { f with protocol := true }).notice .protocol (some st)

/-- R25: a PROTOCOL fault set if `bad` holds; one frame sets it once (R56, R65). -/
def Device.protocolFaultIf (d : Device) (bad : Bool) (st : Station) : Device :=
  if bad then d.protocolFault st else d

/-- R25: PATH_FULL; no notice. -/
def Device.pathFullFault (d : Device) (st : Station) : Device :=
  d.modFaults st fun f => { f with pathFull := true }

/-- R25: UPLINK_DROP and the UPLINK_DROP notice. -/
def Device.uplinkDropFault (d : Device) (st : Station) : Device :=
  (d.modFaults st fun f => { f with uplinkDrop := true }).notice .uplinkDrop (some st)

/-- R25, R43: SHORTFALL and the SHORTFALL notice. -/
def Device.shortfallFault (d : Device) (st : Station) : Device :=
  (d.modFaults st fun f => { f with shortfall := true }).notice .shortfall (some st)

end Sys2Proof.Machine
end

