-- ==== Sys2Proof/Machine/Ops.lean ====
section
/-! DEFINITION. The named operations over the part's tables, ports and banks: reading and changing one
station's or slot's record, prices (R28), frames toward a station (R150, R153, R154), the receiver and
transmitter of a station port (R151), and the two guards every command stands behind. -/

namespace Sys2Proof.Machine

/-! ### One record of a table -/

/-- The context of a station. -/
def Device.ctx (d : Device) (st : Station) : Context := d.contexts[st]

/-- The path list of a station. -/
def Device.path (d : Device) (st : Station) : List PathEntry := d.paths[st]

/-- The path list of a station replaced. -/
def Device.setPath (d : Device) (st : Station) (p : List PathEntry) : Device :=
  { d with paths := d.paths.set st p }

/-- The port of a station. -/
def Device.port (d : Device) (st : Station) : Port := d.ports[st]

/-- A change of one port. -/
def Device.modPort (d : Device) (st : Station) (f : Port → Port) : Device :=
  { d with ports := update d.ports st f }

/-- A hold slot. -/
def Device.slot (d : Device) (i : SlotNo) : Slot := d.slots[i]

/-- A change of one slot. -/
def Device.modSlot (d : Device) (i : SlotNo) (f : Slot → Slot) : Device :=
  { d with slots := update d.slots i f }

/-- A change of one configuration record. -/
def Device.modConfig (d : Device) (st : Station) (f : StationConfig → StationConfig) : Device :=
  { d with configs := update d.configs st f }

/-- A change of the job record of a station, if it has one. -/
def Device.modJob (d : Device) (st : Station) (f : Job → Job) : Device :=
  d.modCtx st fun c => { c with job := c.job.map f }

/-- A change of the session record of a station, if it has one. -/
def Device.modSession (d : Device) (st : Station) (f : Session → Session) : Device :=
  d.modCtx st fun c => { c with session := c.session.map f }

/-- A change of the meters of a station. -/
def Device.modMeters (d : Device) (st : Station) (f : Meters → Meters) : Device :=
  d.modCtx st fun c => { c with meters := f c.meters }

/-! ### Prices (R28) and banks (R72) -/

/-- The number of a colour mode (00). -/
def ColourMode.number : ColourMode → Nat
  | .mono => 0
  | .colour => 1

/-- A price class is size class x 2 + colour mode (00 "Price classes"). -/
def priceClass (size : SizeClass) (mode : ColourMode) : PriceClass :=
  ⟨size.val * 2 + mode.number, by cases mode <;> simp only [ColourMode.number] <;> omega⟩

/-- A bank by its name. -/
def Tariff.get (t : Tariff) : BankName → Bank
  | .bankA => t.bankA
  | .bankB => t.bankB

/-- A change of one bank. -/
def Tariff.modBank (t : Tariff) (b : BankName) (f : Bank → Bank) : Tariff :=
  match b with
  | .bankA => { t with bankA := f t.bankA }
  | .bankB => { t with bankB := f t.bankB }

/-- The side price of a price class in a bank. -/
def Device.sidePrice (d : Device) (b : BankName) (c : PriceClass) : Nat := ((d.tariff.get b).prices[c]).toNat

/-- R75: a bind raises the selected bank's reference count and answers with its name. -/
def Device.bindBank (d : Device) : Device × BankName :=
  ({ d with tariff := d.tariff.modBank d.tariff.selector fun b => { b with refCount := b.refCount + 1 } }, d.tariff.selector)

/-- R76: a release lowers the bank's reference count. -/
def Device.releaseBank (d : Device) (b : BankName) : Device :=
  { d with tariff := d.tariff.modBank b fun k => { k with refCount := k.refCount - 1 } }

/-- R28: the one-sheet price of a job in a bank. -/
def Device.oneSheetPrice (d : Device) (b : BankName) (j : Job) : Nat :=
  j.sides * d.sidePrice b (priceClass j.size j.colour)

/-! ### Frames toward a station -/

/-- A frame produced for a station (R150): lost if the carrier is ABSENT (R153), discarded with the LINK notice
if 16 are queued (R154), else at the tail of the own-frame queue. -/
def Device.send (d : Device) (st : Station) (f : StationFrame) : Device :=
  if (d.port st).carrier = false then d
  else if Config.ownQueueCapacity ≤ (d.port st).ownQueue.length then d.notice .link (some st)
  else d.modPort st fun p => { p with ownQueue := p.ownQueue ++ [f] }

/-- R151: the next frame the transmitter takes: the head of the own-frame queue, of the text queue if that one is
empty; IDLE if both are empty. -/
def Port.beginNext (p : Port) : Port :=
  match p.ownQueue, p.textQueue with
  | f :: rest, _ => { p with ownQueue := rest, transmitter := .sending f }
  | [], t :: rest => { p with textQueue := rest, transmitter := .sending (.text t) }
  | [], [] => { p with transmitter := .idle }

/-- R151: the transmitter begins a frame when it is IDLE and the receiver WAITING. -/
def Port.beginIfReady (p : Port) : Port :=
  match p.transmitter, p.receiver with
  | .idle, .waiting => p.beginNext
  | _, _ => p

/-- R151: a station's transmitter begins a frame if it may. -/
def Device.transmit (d : Device) (st : Station) : Device := d.modPort st Port.beginIfReady

/-- R151: the receiver has taken the last byte of a frame and waits again. -/
def Port.endReception (p : Port) : Port := { p with receiver := .waiting }

/-- R151, R152: whether the line is the receiver's: carrier PRESENT and transmitter IDLE. -/
def Port.lineFree (p : Port) : Bool := p.carrier && p.transmitter == .idle

/-- R151, R152, R201: whether the port is receiving a frame: its start delimiter has been taken (log 5). -/
def Port.receives (p : Port) : Bool := p.receiver == .receiving && p.lineFree

/-! ### The guards of the commands -/

/-- R168: while RESET is asserted nothing happens in the part. -/
def Device.running (d : Device) (f : Device → Device) : Device := if d.resetAsserted then d else f d

/-- A station frame whose last byte the port's receiver takes (R151, R152): the receiver waits again, the frame has its
effect `f`, and the transmitter begins at once if either queue then holds a frame (log 6). A frame whose delimiter was
not taken, because it overlapped the transmitter or came without a carrier, is not received. -/
def Device.receiveStation (d : Device) (st : Station) (f : Device → Device) : Device :=
  d.running fun d => if (d.port st).receives then (f (d.modPort st Port.endReception)).transmit st else d

/-- R162, R201: whether the uplink port is receiving a frame. -/
def Uplink.receives (u : Uplink) : Bool := u.receiver == .receiving && u.carrier

/-- An uplink frame whose last byte the uplink receiver takes (R162). -/
def Device.receiveUplink (d : Device) (f : Device → Device) : Device :=
  d.running fun d =>
    if d.uplink.receives then f { d with uplink := { d.uplink with receiver := .waiting } } else d

/-- A meaning: what a command does to the part, the queue of commands left as it is. -/
def State.onDevice (s : State) (f : Device → Device) : Host.Outcome State Fault Refusal :=
  .next { s with toDevice := f s.toDevice }

end Sys2Proof.Machine
end

