-- ==== Sys2Proof/Machine/Operands.lean ====
section
/-! DEFINITION. Reading the fields of frames and requests: the encodings of R203, the values R204 to R207 give
the codes, and the checks a frame's fields meet before any of them is used (R33, R39, R56, R65, R178). -/

namespace Sys2Proof.Machine

/-! ### Single fields (R203) -/

/-- A flag: 0 clear, any other value set. -/
def readFlag (b : Byte) : Bool := b != 0#8

/-- A size class, 0 to 3. -/
def readSize (b : Byte) : Option SizeClass := if h : b.toNat < 4 then some ⟨b.toNat, h⟩ else none

/-- A colour mode, 0 or 1. -/
def readColour (b : Byte) : Option ColourMode :=
  if b = 0#8 then some .mono else if b = 1#8 then some .colour else none

/-- A station number, 0 to 15. -/
def readStation (b : Byte) : Option Station := if h : b.toNat < 16 then some ⟨b.toNat, h⟩ else none

/-- A slot number, 0 to 31. -/
def readSlot (b : Byte) : Option SlotNo := if h : b.toNat < 32 then some ⟨b.toNat, h⟩ else none

/-- A bank (R207). -/
def readBank (b : Byte) : Option BankName :=
  if b = 0#8 then some .bankA else if b = 1#8 then some .bankB else none

/-- A lifetime in minutes as seconds: 0 is taken as 1 minute, above 240 as 240 minutes (R116). -/
def lifetimeSeconds (b : Byte) : Nat := (if b.toNat = 0 then 1 else min b.toNat 240) * 60

/-- A set of the twelve notice classes; none if it names a class above 11 (R203, R206). -/
def readClasses (h : Half) : Option (Vector Bool 12) :=
  if h.toNat < 4096 then some (Vector.ofFn fun c => h.getLsbD c.val) else none

/-! ### START (R33) -/

/-- The six parameters of a job order, in range. -/
structure JobOrder where
  sheetsPerSet : Nat
  sets : Nat
  sides : Nat
  size : SizeClass
  colour : ColourMode
  lastJob : Bool
  deriving DecidableEq, Repr

/-- R33, first check: the parameters of a START, or none for BAD_JOB. -/
def readOrder (sheetsPerSet sets : Half) (sides size colour lastJob : Byte) : Option JobOrder :=
  match readSize size, readColour colour with
  | some z, some c =>
    if 1 ≤ sheetsPerSet.toNat ∧ sheetsPerSet.toNat ≤ 999 ∧ 1 ≤ sets.toNat ∧ sets.toNat ≤ 9999 ∧
        (sides.toNat = 1 ∨ sides.toNat = 2) then
      some { sheetsPerSet := sheetsPerSet.toNat, sets := sets.toNat, sides := sides.toNat
             size := z, colour := c, lastJob := readFlag lastJob }
    else none
  | _, _ => none

/-! ### FEED (R39, R204) -/

/-- The size class of a fed sheet: FF means the job's own, and so does a bad value, which is a PROTOCOL fault. -/
def feedSize (own : SizeClass) (b : Byte) : SizeClass × Bool :=
  if b = 0xFF#8 then (own, false) else match readSize b with
    | some z => (z, false)
    | none => (own, true)

/-- The colour mode of a fed sheet, in the same way. -/
def feedColour (own : ColourMode) (b : Byte) : ColourMode × Bool :=
  if b = 0xFF#8 then (own, false) else match readColour b with
    | some c => (c, false)
    | none => (own, true)

/-! ### JAM and CLEAR (R56, R65) -/

/-- Whether an entry of the list carries the ordinal. -/
def carries (path : List PathEntry) (ordinal : Half) : Bool := path.any fun e => e.ordinal == ordinal

/-- R56: a JAM names an ordinal no entry carries, or one ordinal twice. -/
def jamAtFault (path : List PathEntry) : List Half → Bool
  | [] => false
  | o :: rest => !carries path o || rest.contains o || jamAtFault path rest

/-- R53, R55: every entry marked NAMED or MISSING by a JAM's list. -/
def markEntries (named : List Half) (path : List PathEntry) : List PathEntry :=
  path.map fun e => { e with mark := some (if named.contains e.ordinal then .named else .missing) }

/-- The outcomes of a CLEAR (R66). -/
inductive Outcome3 where
  | delivered
  | spoiled
  | refeed
  deriving DecidableEq, Repr

/-- The outcome codes of R207. -/
def readOutcome (b : Byte) : Option Outcome3 :=
  if b = 1#8 then some .delivered else if b = 2#8 then some .spoiled else if b = 3#8 then some .refeed else none

/-- R65: the items of a CLEAR that stand, given those that stand already, and whether any is at fault. -/
def clearItems (path : List PathEntry) (stand : List (Half × Outcome3)) :
    List (Half × Byte) → List (Half × Outcome3) × Bool
  | [] => (stand, false)
  | (o, code) :: rest =>
    match readOutcome code with
    | some out =>
      if carries path o && !(stand.any fun p => p.1 == o) then clearItems path (stand ++ [(o, out)]) rest
      else ((clearItems path stand rest).1, true)
    | none => ((clearItems path stand rest).1, true)

/-- The outcome that the items that stand give an ordinal. -/
def outcomeOf (stand : List (Half × Outcome3)) (ordinal : Half) : Option Outcome3 :=
  (stand.find? fun p => p.1 == ordinal).map (·.2)

/-! ### Management requests (R178, R206) -/

/-- R178, R206: the parameter length of each of the twenty kinds; none for a kind that is not defined. -/
def paramLength (kind : Byte) : Option Nat :=
  if kind = 0x01#8 then some 13 else if kind = 0x02#8 then some 3 else if kind = 0x03#8 then some 4
  else if kind = 0x04#8 then some 4 else if kind = 0x05#8 then some 6 else if kind = 0x08#8 then some 17
  else if kind = 0x09#8 then some 1 else if kind = 0x0C#8 then some 3 else if kind = 0x0D#8 then some 0
  else if kind = 0x10#8 then some 2 else if kind = 0x11#8 then some 4 else if kind = 0x12#8 then some 2
  else if kind = 0x13#8 then some 1 else if kind = 0x14#8 then some 1 else if kind = 0x15#8 then some 1
  else if kind = 0x18#8 then some 1 else if kind = 0x1C#8 then some 0 else if kind = 0x1E#8 then some 2
  else if kind = 0x1F#8 then some 2 else if kind = 0x7F#8 then some 0 else none

/-- R178: the kinds whose first parameter is a station number. -/
def namesStation (kind : Byte) : Bool :=
  kind == 0x10#8 || kind == 0x11#8 || kind == 0x12#8 || kind == 0x13#8 || kind == 0x14#8 || kind == 0x15#8

/-- R178: the three checks before a request goes to its owner; none when they pass. -/
def requestFault (r : MgmtRequest) : Option Status :=
  match paramLength r.kind with
  | none => some .unknown
  | some n =>
    if r.params.length ≠ n then some .badValue
    else if namesStation r.kind && !(match r.params with
      | b :: _ => (readStation b).isSome
      | [] => false) then some .badValue
    else none

/-- The station a request names as its first parameter. -/
def MgmtRequest.station (r : MgmtRequest) : Option Station :=
  match r.params with
  | b :: _ => readStation b
  | [] => none

/-- The account number a request names as its first parameter. -/
def MgmtRequest.number (r : MgmtRequest) : Nat :=
  match r.params with
  | a :: b :: c :: _ => (amount24 a b c).toNat
  | _ => 0

/-- The eight prices of a TARIFF_LOAD (R77). -/
def readPrices (bytes : List Byte) : Vector Half 8 :=
  Vector.ofFn fun c => half (bytes.getD (2 * c.val) 0#8) (bytes.getD (2 * c.val + 1) 0#8)

/-- The configuration parameters by name (R179, R207). -/
inductive ParamName where
  | drawSize
  | cardHold
  | renewalIncrement
  | renewalMargin
  | authTimeout
  | outstandingLimit
  | idleTime
  | dozeTime
  | jamTime
  | pinFailureLimit
  deriving DecidableEq, Repr

/-- The parameter codes 01 to 0A, in the order of R179. -/
def readParam (b : Byte) : Option ParamName :=
  if b = 0x01#8 then some .drawSize else if b = 0x02#8 then some .cardHold
  else if b = 0x03#8 then some .renewalIncrement else if b = 0x04#8 then some .renewalMargin
  else if b = 0x05#8 then some .authTimeout else if b = 0x06#8 then some .outstandingLimit
  else if b = 0x07#8 then some .idleTime else if b = 0x08#8 then some .dozeTime
  else if b = 0x09#8 then some .jamTime else if b = 0x0A#8 then some .pinFailureLimit else none

/-- The range of a parameter (R179). -/
def ParamName.range : ParamName → Nat × Nat
  | .drawSize => (10, 5000)
  | .cardHold => (100, 50000)
  | .renewalIncrement => (100, 50000)
  | .renewalMargin => (30, 600)
  | .authTimeout => (5, 120)
  | .outstandingLimit => (1, 8)
  | .idleTime => (10, 600)
  | .dozeTime => (0, 120)
  | .jamTime => (1, 60)
  | .pinFailureLimit => (1, 15)

/-- The value of a parameter. -/
def Params.get (p : Params) : ParamName → Nat
  | .drawSize => p.drawSize
  | .cardHold => p.cardHold
  | .renewalIncrement => p.renewalIncrement
  | .renewalMargin => p.renewalMargin
  | .authTimeout => p.authTimeout
  | .outstandingLimit => p.outstandingLimit
  | .idleTime => p.idleTime
  | .dozeTime => p.dozeTime
  | .jamTime => p.jamTime
  | .pinFailureLimit => p.pinFailureLimit

/-- A parameter given a value. -/
def Params.put (p : Params) (name : ParamName) (v : Nat) : Params :=
  match name with
  | .drawSize => { p with drawSize := v }
  | .cardHold => { p with cardHold := v }
  | .renewalIncrement => { p with renewalIncrement := v }
  | .renewalMargin => { p with renewalMargin := v }
  | .authTimeout => { p with authTimeout := v }
  | .outstandingLimit => { p with outstandingLimit := v }
  | .idleTime => { p with idleTime := v }
  | .dozeTime => { p with dozeTime := v }
  | .jamTime => { p with jamTime := v }
  | .pinFailureLimit => { p with pinFailureLimit := v }

end Sys2Proof.Machine
end

