-- ==== Sys2Proof/Machine/Accounts.lean ====
section
/-! DEFINITION. The account table (R82 to R106): finding and changing entries, the credential check, draws,
refills, the service of the waiting list, commits, returns and releases. Each operation is one request taken
whole (R86). A request of a station is taken after a refill of that station that is still under way (log 9). -/

namespace Sys2Proof.Machine

/-! ### The table (R82, R85) -/

/-- R85: the available amount. -/
def Account.available (a : Account) : Nat := a.limit - a.spent - a.draws

/-- R82: the entry that carries a number. -/
def findAccount (number : Nat) (table : List Account) : Option Account := table.find? fun a => a.number == number

/-- A change of the entry that carries a number. -/
def modAccount (number : Nat) (f : Account → Account) (table : List Account) : List Account :=
  table.map fun a => if a.number = number then f a else a

/-- R82, R101: an entry placed in number order. -/
def insertAccount (a : Account) : List Account → List Account
  | [] => [a]
  | b :: rest => if a.number < b.number then a :: b :: rest else b :: insertAccount a rest

/-- The entry of the table that carries a number. -/
def Device.account (d : Device) (number : Nat) : Option Account := findAccount number d.accounts

/-- A change of one entry of the table. -/
def Device.modAccount (d : Device) (number : Nat) (f : Account → Account) : Device :=
  { d with accounts := Sys2Proof.Machine.modAccount number f d.accounts }

/-- R105: the summary of an entry. -/
def Account.summary (a : Account) : AccountSummary :=
  { number := a.number, state := a.state, limit := a.limit, spent := a.spent, draws := a.draws
    available := a.available, openSessions := a.openSessions, waitingLength := a.waiting.length }

/-- R84: whether all ten counts are 0. -/
def PeriodRecord.isZero (r : PeriodRecord) : Bool := r == .zero

/-- R86: a message of the table joins those under way to a context. -/
def Device.mail (d : Device) (st : Station) (m : AccountMail) : Device :=
  d.modCtx st fun c => { c with accountMail := c.accountMail ++ [m] }

/-! ### Draws (R29, R90) -/

/-- R90: the draw granted at a one-sheet price from an available amount. -/
def drawGranted (drawSize price available : Nat) : Nat := min (max drawSize price) available

/-! ### Service of the waiting list (R93) -/

/-- R93: the stations served with their draws, and the items that stay, from the head of the list while the
available amount covers the head's price. -/
def serveList (drawSize : Nat) : Nat → List WaitItem → List (Station × Nat) × List WaitItem
  | _, [] => ([], [])
  | available, w :: rest =>
    if w.oneSheetPrice ≤ available then
      let draw := drawGranted drawSize w.oneSheetPrice available
      let more := serveList drawSize (available - draw) rest
      ((w.station, draw) :: more.1, more.2)
    else ([], w :: rest)

/-- The sum of some draws. -/
def sumDraws (grants : List (Station × Nat)) : Nat := (grants.map (·.2)).sum

/-- R86: the grants of one service go to the contexts of the stations served. -/
def Device.mailGrants (d : Device) (number : Nat) (grants : List (Station × Nat)) : Device :=
  grants.foldl (fun d g => d.mail g.1 (.grant number g.2)) d

/-- R93: service of an account's waiting list; nothing unless the account is OPEN. -/
def Device.serve (d : Device) (number : Nat) : Device :=
  match d.account number with
  | none => d
  | some a =>
    if a.state = .active then
      let r := serveList d.mgmt.params.drawSize a.available a.waiting
      (d.modAccount number fun a => { a with draws := a.draws + sumDraws r.1, waiting := r.2 }).mailGrants number r.1
    else d

/-- Service set off by a return, credit or raise: only if `due` holds (R93). -/
def Device.serveIf (d : Device) (due : Bool) (number : Nat) : Device := if due then d.serve number else d

/-! ### Refills (R91) -/

/-- R91, R92: a station joins a waiting list at its tail; no station appears twice. -/
def Account.addWaiter (a : Account) (w : WaitItem) : Account :=
  if a.waiting.any fun x => x.station == w.station then a else { a with waiting := a.waiting ++ [w] }

/-- R91: the account table takes the refill request of a station that is under way, if there is one. -/
def Device.takeRefill (d : Device) (st : Station) : Device :=
  match (d.ctx st).refillAsked with
  | none => d
  | some ask =>
    let d := d.modCtx st fun c => { c with refillAsked := none }
    match d.account ask.number with
    | none => d.mail st (.refill ask.number .refused)
    | some a =>
      if a.state ≠ .active then d.mail st (.refill ask.number .refused)
      else if a.waiting ≠ [] ∨ a.available < ask.oneSheetPrice then
        (d.modAccount ask.number fun a => a.addWaiter { station := st, oneSheetPrice := ask.oneSheetPrice }).mail st
          (.refill ask.number .waiting)
      else
        let draw := drawGranted d.mgmt.params.drawSize ask.oneSheetPrice a.available
        (d.modAccount ask.number fun a => { a with draws := a.draws + draw }).mail st
          (.refill ask.number (.granted draw))

/-! ### The session engine's requests -/

/-- R90: the draw request of an admission, answered with the draw or the DENY reason. -/
def Device.admissionDraw (d : Device) (st : Station) (number price : Nat) : Device × Except DenyReason Nat :=
  let d := d.takeRefill st
  match d.account number with
  | none => (d, .error .noAccount)
  | some a =>
    match a.state with
    | .closed => (d, .error .closed)
    | .stopped => (d, .error .stopped)
    | .active =>
      if a.waiting ≠ [] ∨ a.available < price then (d, .error .noFunds)
      else
        let draw := drawGranted d.mgmt.params.drawSize price a.available
        (d.modAccount number fun a => { a with draws := a.draws + draw }, .ok draw)

/-- R84, R95: a delivered sheet added to a LIVE record. -/
def PeriodRecord.addSheet (r : PeriodRecord) (cls : PriceClass) (sides price : Nat) : PeriodRecord :=
  { r with sides := update r.sides cls fun n => n + BitVec.ofNat 32 sides, amount := r.amount + BitVec.ofNat 32 price }

/-- R95: a commit moves the price from draws total to spent and counts the sheet in LIVE. -/
def Device.commitAccount (d : Device) (st : Station) (number price sides : Nat) (cls : PriceClass) : Device :=
  (d.takeRefill st).modAccount number fun a =>
    { a with draws := a.draws - price, spent := a.spent + price, live := a.live.addSheet cls sides price }

/-- R92: a station leaves an account's waiting list, from its place. -/
def Account.dropWaiter (a : Account) (st : Station) : Account :=
  { a with waiting := a.waiting.filter fun w => w.station ≠ st }

/-- R49, R61: the session engine asks for the removal of a station from the waiting list. -/
def Device.leaveWaiting (d : Device) (st : Station) (number : Nat) : Device :=
  (d.takeRefill st).modAccount number fun a => a.dropWaiter st

/-- R94: a job-end release: the station leaves the list, the draw is subtracted, and the list is served if the
draw was above 0. -/
def Device.jobEndRelease (d : Device) (st : Station) (number draw : Nat) : Device :=
  ((d.leaveWaiting st number).modAccount number fun a => { a with draws := a.draws - draw }).serveIf (0 < draw) number

/-- R94, R48: the return of a draw that no job wants. The entry is found by its number as the table then stands: a draw that was
still under way when its session was finalized is returned to the entry that carries the number by then, which may have been
inserted anew, or to none (the model's choice, log 28). -/
def Device.handBack (d : Device) (st : Station) (number draw : Nat) : Device :=
  ((d.takeRefill st).modAccount number fun a => { a with draws := a.draws - draw }).serveIf (0 < draw) number

/-- R96: a session release with any draw the session still holds. -/
def Device.sessionRelease (d : Device) (st : Station) (number draw : Nat) : Device :=
  ((d.takeRefill st).modAccount number fun a =>
    { a.dropWaiter st with openSessions := a.openSessions - 1, draws := a.draws - draw }).serveIf (0 < draw) number

/-! ### Credentials (R87 to R89) -/

/-- R88: an entry after a PIN failure. -/
def Account.failPin (a : Account) (failureLimit : Nat) : Account :=
  { a with pinFailures := a.pinFailures + 1
           state := if failureLimit ≤ a.pinFailures + 1 then .stopped else a.state }

/-- R89: an entry after a successful check. -/
def Account.opened (a : Account) : Account :=
  { a with pinFailures := 0, openSessions := a.openSessions + 1, live := { a.live with sessions := a.live.sessions + 1 } }

/-- R87: the credential check of a KEYIN; none is success. -/
def Device.credentialCheck (d : Device) (st : Station) (number : Nat) (pin : Half) : Device × Option DenyReason :=
  match d.account number with
  | none => (d, some .noAccount)
  | some a =>
    if number = 0 then (d, some .noAccount)
    else match a.state with
      | .closed => (d, some .closed)
      | .stopped => (d, some .stopped)
      | .active =>
        if a.pin ≠ 0 ∧ a.pin ≠ pin then
          let d1 := d.modAccount number fun a => a.failPin d.mgmt.params.pinFailureLimit
          (if d.mgmt.params.pinFailureLimit ≤ a.pinFailures + 1 then d1.notice .accountStopped (some st) else d1, some .badPin)
        else (d.modAccount number Account.opened, none)

/-! ### Account states (R98 to R100) -/

/-- Whether the session record of a context names an account. -/
def Context.fundedBy (c : Context) (number : Nat) : Bool :=
  match c.session with
  | some r => r.funding == .account number
  | none => false

/-- The station numbers in order. -/
def allStations : List Station := [0, 1, 2, 3, 4, 5, 6, 7, 8, 9, 10, 11, 12, 13, 14, 15]

/-- R100: the close report goes to every context whose session the account funds. -/
def Device.mailClosed (d : Device) (number : Nat) : Device :=
  allStations.foldl (fun d st => if (d.ctx st).fundedBy number then d.mail st (.closed number) else d) d

end Sys2Proof.Machine
end

