-- ==== Sys2Proof/Machine/Payments.lean ====
section
/-! DEFINITION. The payment unit (R107 to R132): slots, the payment request queue, the outstanding count, the
stale-void list, renewals, expiry, capture and void. -/

namespace Sys2Proof.Machine

/-- The slot numbers in order. -/
def allSlots : List SlotNo :=
  [0, 1, 2, 3, 4, 5, 6, 7, 8, 9, 10, 11, 12, 13, 14, 15, 16, 17, 18, 19, 20, 21, 22, 23, 24, 25, 26, 27, 28, 29, 30, 31]

/-- The reference of a slot's present use. -/
def Device.slotRef (d : Device) (i : SlotNo) : SlotRef := { slot := i, generation := (d.slot i).generation }

/-- R108: how many slots a station owns. -/
def Device.slotsOwned (d : Device) (st : Station) : Nat := allSlots.countP fun i => (d.slot i).owner == some st

/-- R108: the lowest-numbered FREE slot. -/
def Device.lowestFree (d : Device) : Option SlotNo := allSlots.find? fun i => (d.slot i).state == .free

/-- R29: approved less consumed and less provisional. -/
def Slot.headroom (s : Slot) : Nat := s.approved - s.consumed - s.provisional

/-- R107: a slot enters FREE. -/
def Device.freeSlot (d : Device) (i : SlotNo) : Device := d.modSlot i fun s => Slot.freed s.generation

/-- R110: a slot's request is queued at the tail. -/
def Device.queueRequest (d : Device) (i : SlotNo) (kind : RequestKind) (funds : Bool) (amount : Nat) : Device :=
  let d := d.modSlot i fun s => { s with request := some { kind := kind, place := .queued, funds := funds, amount := amount } }
  { d with payQueue := d.payQueue ++ [{ ref := d.slotRef i, kind := kind }] }

/-- R110: a queued request of a slot is withdrawn from its place. -/
def Device.withdrawQueued (d : Device) (i : SlotNo) : Device :=
  let d := d.modSlot i fun s => { s with request := none }
  { d with payQueue := d.payQueue.filter fun e => e.ref.slot ≠ i }

/-- R112: an OUTSTANDING request of a slot ends; the count falls and its timer stops. -/
def Device.endOutstanding (d : Device) (i : SlotNo) : Device :=
  let d := d.modSlot i fun s => { s with request := none }
  { d with outstanding := d.outstanding - 1 }

/-- Whether a slot's request is OUTSTANDING and of a kind. -/
def Slot.awaits (s : Slot) (kind : RequestKind) : Bool :=
  match s.request with
  | some { kind := k, place := .outstanding _, .. } => k == kind
  | _ => false

/-- Whether the timer of a slot's OUTSTANDING request of a kind has counted down to 0 (R1, log 7). -/
def Slot.timedOut (s : Slot) (kind : RequestKind) : Bool :=
  match s.request with
  | some { kind := k, place := .outstanding 0, .. } => k == kind
  | _ => false

/-- Whether a slot's request carries the funds mark. -/
def Slot.fundsMarked (s : Slot) : Bool :=
  match s.request with
  | some r => r.funds
  | none => false

/-- A report of the payment unit to the session engine for a slot's owner station. -/
def Device.payReport (d : Device) (i : SlotNo) (kind : ReportKind) : Device :=
  match (d.slot i).owner with
  | some st => { d with payReports := d.payReports ++ [{ kind := kind, station := st, ref := d.slotRef i }] }
  | none => d

/-- A notice with a slot's owner station. -/
def Device.ownerNotice (d : Device) (i : SlotNo) (c : NoticeClass) : Device := d.notice c (d.slot i).owner

/-! ### Taking a slot (R115) -/

/-- R115: a slot is taken for a station: its generation advances, its AUTH is queued. -/
def Device.takeSlot (d : Device) (i : SlotNo) (st : Station) (token : List Byte) : Device :=
  let d := d.modSlot i fun s =>
    { Slot.freed (s.generation + 1) with
      state := .authorizing, owner := some st, token := some token, asked := some d.mgmt.params.cardHold }
  d.queueRequest i .auth false 0

/-! ### Lifetime and renewal (R121, R122) -/

/-- R121: whether a lifetime renewal of a slot is due. -/
def Slot.renewalDue (s : Slot) (margin : Nat) : Bool :=
  s.state == .active && !s.renewalsRefused && s.request == none && decide (s.lifetime ≤ margin)

/-- R121: the lifetime renewal test of a slot. -/
def Device.lifetimeTest (d : Device) (i : SlotNo) : Device :=
  if (d.slot i).renewalDue d.mgmt.params.renewalMargin then
    (d.queueRequest i .renew false 0).modSlot i fun s => { s with state := .renewing }
  else d

/-- R122: a funds renewal asked for a slot; true is accepted. -/
def Device.fundsRenewal (d : Device) (i : SlotNo) : Device × Bool :=
  match (d.slot i).state with
  | .active =>
    if (d.slot i).renewalsRefused then (d, false)
    else if Config.maxAmount ≤ (d.slot i).approved then (d.modSlot i fun s => { s with renewalsRefused := true }, false)
    else ((d.queueRequest i .renew true 0).modSlot i fun s => { s with state := .renewing }, true)
  | .renewing => (d.modSlot i fun s => { s with request := s.request.map fun r => { r with funds := true } }, true)
  | _ => (d, false)

/-! ### Reserve, commit, return (R109) -/

/-- R40: a fed sheet's price reserved. -/
def Device.reserveCard (d : Device) (i : SlotNo) (price : Nat) : Device :=
  d.modSlot i fun s => { s with provisional := s.provisional + price }

/-- R42: a delivered sheet's price moved from provisional to consumed. -/
def Device.commitCard (d : Device) (i : SlotNo) (price : Nat) : Device :=
  d.modSlot i fun s => { s with provisional := s.provisional - price, consumed := s.consumed + price }

/-- R54: a provisional charge returned. -/
def Device.returnCard (d : Device) (i : SlotNo) (price : Nat) : Device :=
  d.modSlot i fun s => { s with provisional := s.provisional - price }

/-! ### Finalize and abandonment (R127, R119) -/

/-- R127: the final request of an amount consumed. -/
def finalRequest (consumed : Nat) : FinalRequest := if 0 < consumed then .capture consumed else .void

/-- The request kind of a final request. -/
def FinalRequest.kind : FinalRequest → RequestKind
  | .capture _ => .capture
  | .void => .void

/-- The amount of a final request, 0 for VOID. -/
def FinalRequest.amount : FinalRequest → Nat
  | .capture n => n
  | .void => 0

/-- The slot state of a final request. -/
def FinalRequest.slotState : FinalRequest → SlotState
  | .capture _ => .capturing
  | .void => .voiding

/-- R127: a slot enters CAPTURING or VOIDING with its final request at the tail of the queue. -/
def Device.queueFinal (d : Device) (i : SlotNo) (f : FinalRequest) : Device :=
  (d.queueRequest i f.kind false f.amount).modSlot i fun s => { s with state := f.slotState }

/-- R127: the finalize of a slot with an amount consumed, by the slot's state. -/
def Device.finalizeSlot (d : Device) (i : SlotNo) (consumed : Nat) : Device :=
  let f := finalRequest consumed
  match (d.slot i).state with
  | .active | .expired => d.queueFinal i f
  | .renewing =>
    if (d.slot i).awaits .renew then d.modSlot i fun s => { s with state := f.slotState, finalWaiting := some f }
    else (d.withdrawQueued i).queueFinal i f
  | _ => d

/-- R118, R119: a slot enters LAPSED and its lapse timer starts at four times the authorization timeout. -/
def Device.lapse (d : Device) (i : SlotNo) : Device :=
  d.modSlot i fun s => { s with state := .lapsed, token := none, lapseTimer := some (4 * d.mgmt.params.authTimeout) }

/-- R119: a pending slot handed back as abandoned. R119's table has no row for a slot that is EXPIRED, its approval not
yet taken by the session engine; it is finalized with 0 as an approved slot (R127; the model's reading, log 35). -/
def Device.abandonSlot (d : Device) (ref : SlotRef) : Device :=
  let i := ref.slot
  if (d.slot i).generation ≠ ref.generation then d
  else match (d.slot i).state with
    | .authorizing => if (d.slot i).awaits .auth then (d.endOutstanding i).lapse i else (d.withdrawQueued i).lapse i
    | .active | .renewing | .expired => d.finalizeSlot i 0
    | _ => d

/-! ### Results (R113 to R129) -/

/-- R113: the slot that a reference names by number and present generation. -/
def Device.matchRef (d : Device) (slot generation : Byte) : Option SlotNo :=
  match readSlot slot with
  | some i => if (d.slot i).generation = generation then some i else none
  | none => none

/-- R114: a stale approval's gateway reference joins the stale-void list, or sets PAYMENT_UNCONFIRMED. -/
def Device.staleApproval (d : Device) (ref : Reference) : Device :=
  if Config.staleVoidCapacity ≤ d.staleVoids.length then d.notice .paymentUnconfirmed none
  else { d with staleVoids := d.staleVoids ++ [ref] }

/-- R116, R124: a slot ACTIVE with an approved amount and a lifetime. -/
def Slot.activated (s : Slot) (approved : Nat) (lifetime : Byte) : Slot :=
  { s with state := .active, approved := approved, lifetime := lifetimeSeconds lifetime }

/-- R116: an approval matched to a slot in AUTHORIZING. -/
def Device.approveAuth (d : Device) (i : SlotNo) (ref : Reference) (approved : Nat) (lifetime : Byte) : Device :=
  let d := (d.endOutstanding i).modSlot i fun s =>
    { s.activated approved lifetime with reference := some ref, consumed := 0, provisional := 0, renewalsRefused := false }
  (d.payReport i .approval).lifetimeTest i

/-- R117: a decline matched to a slot in AUTHORIZING. -/
def Device.declineAuth (d : Device) (i : SlotNo) : Device := ((d.endOutstanding i).payReport i .decline).freeSlot i

/-- R120: a late approval matched to a LAPSED slot queues VOID. -/
def Device.voidLate (d : Device) (i : SlotNo) (ref : Reference) : Device :=
  (d.modSlot i fun s => { s with lapseTimer := none, reference := some ref }).queueFinal i .void

/-- R124, R125: a renewal refused, whether by a result or a timeout. -/
def Device.refuseRenewal (d : Device) (i : SlotNo) : Device :=
  let marked := (d.slot i).fundsMarked
  let d := (d.endOutstanding i).modSlot i fun s => { s with state := .active, renewalsRefused := true }
  if marked then d.payReport i .renewalRefusal else d

/-- R124: a renewal approved. -/
def Device.approveRenewal (d : Device) (i : SlotNo) (approved : Nat) (lifetime : Byte) : Device :=
  let marked := (d.slot i).fundsMarked
  let d := ((d.endOutstanding i).modSlot i fun s => s.activated approved lifetime).lifetimeTest i
  if marked then d.payReport i .renewalApproval else d

/-- R129: the outstanding renewal that a final request waited behind has ended. -/
def Device.releaseFinal (d : Device) (i : SlotNo) : Device :=
  match (d.slot i).finalWaiting with
  | some f => ((d.endOutstanding i).modSlot i fun s => { s with finalWaiting := none }).queueFinal i f
  | none => d

/-- R128: the end of a CAPTURE or VOID frees the slot; unconfirmed if it was refused or timed out. -/
def Device.endFinal (d : Device) (i : SlotNo) (unconfirmed : Bool) : Device :=
  let d := d.endOutstanding i
  (if unconfirmed then d.ownerNotice i .paymentUnconfirmed else d).freeSlot i

/-- R126: the expiry of a slot in ACTIVE or RENEWING. -/
def Device.expireSlot (d : Device) (i : SlotNo) : Device :=
  let d :=
    match (d.slot i).request with
    | some { place := .queued, .. } => d.withdrawQueued i
    | some { place := .outstanding _, .. } => d.endOutstanding i
    | none => d
  let d := d.modSlot i fun s => { s with state := .expired }
  (d.ownerNotice i .holdExpired).payReport i .expiry

/-! ### The tick (R121, R1) -/

/-- A running count lowered by one second. -/
def tickTimer (t : Option Nat) : Option Nat := t.map fun n => n - 1

/-- R111: the timer of an OUTSTANDING request lowered by one second. -/
def Request.tick (r : Request) : Request :=
  match r.place with
  | .queued => r
  | .outstanding n => { r with place := .outstanding (n - 1) }

/-- R121: whether a slot's lifetime falls at a tick. -/
def Slot.lifetimeFalls (s : Slot) : Bool := (s.state == .active || s.state == .renewing) && decide (0 < s.lifetime)

/-- One second of a slot: lifetime (R121), request timer (R111), lapse timer (R118). -/
def Slot.tick (s : Slot) : Slot :=
  { s with lifetime := if s.lifetimeFalls then s.lifetime - 1 else s.lifetime
           request := s.request.map Request.tick, lapseTimer := tickTimer s.lapseTimer }

/-- An item put in its place among others, by rising key. -/
def insertByKey {α : Type} (key : α → Nat) (i : α) : List α → List α
  | [] => [i]
  | j :: rest => if key j < key i then j :: insertByKey key i rest else i :: j :: rest

/-- Items by rising key. -/
def sortByKey {α : Type} (key : α → Nat) : List α → List α
  | [] => []
  | i :: rest => insertByKey key i (sortByKey key rest)

/-- The slots whose lifetime falls at a tick and whose renewal is then due (R121). -/
def Device.dueAtTick (d : Device) : List SlotNo :=
  allSlots.filter fun i => (d.slot i).lifetimeFalls && (d.slot i).tick.renewalDue d.mgmt.params.renewalMargin

/-- One second of a context's timers (R1). -/
def Context.tick (c : Context) : Context :=
  { c with dozeTimer := tickTimer c.dozeTimer, idleTimer := tickTimer c.idleTimer
           waitTimer := tickTimer c.waitTimer, jamTimer := tickTimer c.jamTimer }

/-- One second of the timebase: the counts fall (R1, R121). The slots whose renewal falls due join the queue in a free order (log 8). -/
def Device.tick (d : Device) : Device :=
  let due := sortByKey (fun i => Config.tickKey d.freeCount i.val) d.dueAtTick
  let d1 := { d with contexts := d.contexts.map Context.tick, slots := d.slots.map Slot.tick, freeCount := d.freeCount + 1 }
  due.foldl Device.lifetimeTest d1

end Sys2Proof.Machine
end

