-- ==== Sys2Proof/Machine/Sessions.lean ====
section
/-! DEFINITION. The session engine and the path tracker: headroom and allowance (R29, R30), the entry to each
state, deliveries and resolutions (R37, R42, R43, R54, R66, R67), the end of a job (R50), the end of a session
(R22 to R24), teardown (R10, R71), the funds trigger (R41), admission (R33 to R35) and the loss of funding
(R21, R51, R64). -/

namespace Sys2Proof.Machine

/-! ### What a session has to spend -/

/-- The sum of the provisional charges of a path list. -/
def sumProvisional (path : List PathEntry) : Nat := (path.map (·.provisional)).sum

/-- R29: the free headroom of a station's session. -/
def Device.headroom (d : Device) (st : Station) : Nat :=
  match (d.ctx st).session with
  | some { funding := .account _, .. } =>
    match (d.ctx st).job with
    | some j => j.draw.getD 0 - sumProvisional (d.path st)
    | none => 0
  | some { funding := .card ref, .. } => (d.slot ref.slot).headroom
  | none => 0

/-- R17: the remaining funding that BALANCE carries. -/
def Device.remaining (d : Device) (st : Station) : Nat :=
  match (d.ctx st).session with
  | some { funding := .account n, .. } =>
    match d.account n with
    | some a => a.available
    | none => 0
  | some { funding := .card ref, .. } => (d.slot ref.slot).approved - (d.slot ref.slot).consumed
  | none => 0

/-- R28: the one-sheet price of a station's job, at its session's bound bank. -/
def Device.jobPrice (d : Device) (st : Station) : Nat :=
  match (d.ctx st).session, (d.ctx st).job with
  | some s, some j => d.oneSheetPrice s.bank j
  | _, _ => 0

/-- R30: the allowance of a headroom at a side price. -/
def allowanceOf (headroom sidePrice : Nat) : Nat :=
  if sidePrice = 0 then Config.maxAllowance else min (headroom / sidePrice) Config.maxAllowance

/-- R41, R45: whether the free headroom covers the job's one-sheet price. -/
def Device.covered (d : Device) (st : Station) : Bool := decide (d.jobPrice st ≤ d.headroom st)

/-- Whether a station's path list is empty. -/
def Device.pathEmpty (d : Device) (st : Station) : Bool := (d.path st).isEmpty

/-! ### GO, PAUSE and the entry to a state -/

/-- R30: GO with the allowance of the present headroom; nothing while stop pending is set. -/
def Device.sendGo (d : Device) (st : Station) : Device :=
  match (d.ctx st).session, (d.ctx st).job with
  | some s, some j =>
    if j.stopPending then d
    else
      let a := allowanceOf (d.headroom st) (d.sidePrice s.bank (priceClass j.size j.colour))
      (d.modJob st fun j => { j with allowance := a }).send st (.go a)
  | _, _ => d

/-- R31: PAUSE sets the stored allowance to 0. -/
def Device.sendPause (d : Device) (st : Station) (r : PauseReason) : Device :=
  (d.modJob st fun j => { j with allowance := 0 }).send st (.pause r)

/-- A station's state replaced and its four timers set: all stopped but the one named. -/
def Device.enter (d : Device) (st : Station) (s : StationState) : Device :=
  d.modCtx st fun c => { c with state := s, dozeTimer := none, idleTimer := none, waitTimer := none, jamTimer := none }

/-- R11: the doze timer as it starts; stopped at a doze time of 0. -/
def Params.dozeStart (p : Params) : Option Nat := if p.dozeTime = 0 then none else some (p.dozeTime * 60)

/-- R11: entry to IDLE starts the doze timer. -/
def Device.enterIdle (d : Device) (st : Station) : Device :=
  (d.enter st .idle).modCtx st fun c => { c with dozeTimer := d.mgmt.params.dozeStart }

/-- R17, R22: entry to OPEN sends BALANCE and starts the idle timer. -/
def Device.enterOpen (d : Device) (st : Station) : Device :=
  let d := (d.enter st .opened).modCtx st fun c => { c with idleTimer := some d.mgmt.params.idleTime }
  d.send st (.balance (d.remaining st))

/-- R31, R47: entry to HELD sends PAUSE(FUNDS), and starts the wait timer if the path list is empty. -/
def Device.enterHeld (d : Device) (st : Station) : Device :=
  let d := (d.enter st .held).sendPause st .funds
  if d.pathEmpty st then d.modCtx st fun c => { c with waitTimer := some d.mgmt.params.idleTime } else d

/-- R30: what the engine is sent on entry to RUNNING: GO, PAUSE(PATH_FULL) in its place with 8 entries, nothing
while stop pending is set. -/
def Device.announceRunning (d : Device) (st : Station) : Device :=
  match (d.ctx st).job with
  | some j =>
    if j.stopPending then d
    else if Config.pathCapacity ≤ (d.path st).length then d.sendPause st .pathFull
    else d.sendGo st
  | none => d

/-- R45: entry to RUNNING with its frame. -/
def Device.enterRunning (d : Device) (st : Station) : Device := (d.enter st .running).announceRunning st

/-! ### Sheets leaving the path list -/

/-- R37: a delivered sheet that is not surplus counted in its set. -/
def Job.countDown (j : Job) : Job :=
  if j.inner ≤ 1 then { j with inner := j.sheetsPerSet, outer := j.outer - 1 } else { j with inner := j.inner - 1 }

/-- R42: a delivered sheet in the job record. -/
def Job.deliver (j : Job) (e : PathEntry) : Job :=
  let j := { j with delivered := j.delivered + 1 }
  if e.surplus then { j with surplus := j.surplus + 1 } else j.countDown

/-- R3, R42: a committed sheet in the session record. -/
def Session.commit (s : Session) (e : PathEntry) : Session :=
  { s with committedSides := update s.committedSides (priceClass e.size e.colour) fun n => n + BitVec.ofNat 32 e.sides
           amountCommitted := s.amountCommitted + BitVec.ofNat 32 e.price }

/-- R43: an UNFUNDED sheet delivered in the session record. -/
def Session.addShortfall (s : Session) (e : PathEntry) : Session :=
  { s with shortfallSides := s.shortfallSides + BitVec.ofNat 32 e.sides
           shortfallAmount := s.shortfallAmount + BitVec.ofNat 32 e.price }

/-- R42: the charge of a funded entry committed to the session's funding source. -/
def Device.commitEntry (d : Device) (st : Station) (e : PathEntry) : Device :=
  match (d.ctx st).session with
  | some { funding := .account n, .. } =>
    (d.modJob st fun j => { j with draw := j.draw.map fun x => x - e.price }).commitAccount st n e.price e.sides
      (priceClass e.size e.colour)
  | some { funding := .card ref, .. } => d.commitCard ref.slot e.price
  | none => d

/-- R42, R43: the charge of a delivered entry: committed if funded, else shortfall. -/
def Device.chargeEntry (d : Device) (st : Station) (e : PathEntry) : Device :=
  if e.funded then (d.commitEntry st e).modSession st fun s => s.commit e
  else (d.modSession st fun s => s.addShortfall e).shortfallFault st

/-- R26: a delivered sheet's sides in the station's meters. -/
def Meters.countSides (m : Meters) (e : PathEntry) : Meters :=
  { m with deliveredSides := update m.deliveredSides (priceClass e.size e.colour) fun n => n + BitVec.ofNat 32 e.sides }

/-- R42: a sheet that has left the path list is delivered. -/
def Device.deliver (d : Device) (st : Station) (e : PathEntry) : Device :=
  ((d.chargeEntry st e).modJob st fun j => j.deliver e).modMeters st fun m => m.countSides e

/-- The entry that carries an ordinal taken out of its place (R52). -/
def Device.dropEntry (d : Device) (st : Station) (ordinal : Half) : Device :=
  d.setPath st ((d.path st).eraseP fun e => e.ordinal == ordinal)

/-- R54: the provisional charge of an entry returned. -/
def Device.returnCharge (d : Device) (st : Station) (e : PathEntry) : Device :=
  match (d.ctx st).session with
  | some { funding := .card ref, .. } => d.returnCard ref.slot e.provisional
  | _ => d

/-- R66: a DELIVERED outcome. -/
def Device.outcomeDelivered (d : Device) (st : Station) (e : PathEntry) : Device :=
  (d.dropEntry st e.ordinal).deliver st e

/-- R66: a SPOILED outcome. -/
def Device.outcomeSpoiled (d : Device) (st : Station) (e : PathEntry) : Device :=
  (((d.dropEntry st e.ordinal).returnCharge st e).modJob st fun j => { j with spoiled := j.spoiled + 1 }).modSession st
      (fun s => { s with spoiled := s.spoiled + 1 })
    |>.modMeters st fun m => { m with spoiledSheets := m.spoiledSheets + 1 }

/-- R67: a FORGIVE resolution. -/
def Device.outcomeForgiven (d : Device) (st : Station) (e : PathEntry) : Device :=
  (((d.dropEntry st e.ordinal).returnCharge st e).modJob st fun j => { j with forgiven := j.forgiven + 1 }).modSession st
    fun s => { s with forgiven := s.forgiven + 1 }

/-- R67: an entry resolved by a jam policy. -/
def Device.resolveEntry (d : Device) (st : Station) (policy : JamPolicy) (e : PathEntry) : Device :=
  match policy with
  | .charge => d.outcomeDelivered st e
  | .forgive => d.outcomeForgiven st e

/-- R66, R67: the outcome of a CLEAR for one entry; REFEED leaves it in its place, its mark goes with the others' at
the end (R68). -/
def Device.clearEntry (d : Device) (st : Station) (stand : List (Half × Outcome3)) (e : PathEntry) : Device :=
  match outcomeOf stand e.ordinal with
  | some .delivered => d.outcomeDelivered st e
  | some .spoiled => d.outcomeSpoiled st e
  | some .refeed => d
  | none => d.resolveEntry st d.configs[st].jamPolicy e

/-- R67, R70, R71: every entry resolved by the jam policy, in list order. -/
def Device.resolveAll (d : Device) (st : Station) : Device :=
  (d.path st).foldl (fun x e => x.resolveEntry st d.configs[st].jamPolicy e) d

/-- R68: the marks of the entries left removed. -/
def Device.unmark (d : Device) (st : Station) : Device :=
  d.setPath st ((d.path st).map fun e => { e with mark := none })

/-! ### The end of a job (R50) and of a session (R22 to R24) -/

/-- R37: the completion conditions. -/
def Device.complete (d : Device) (st : Station) : Bool :=
  match (d.ctx st).job with
  | some j => j.outer == 0 && d.pathEmpty st
  | none => false

/-- R50: the draw of an ended job released to its account. -/
def Device.releaseDraw (d : Device) (st : Station) (draw : Nat) : Device :=
  match (d.ctx st).session with
  | some { funding := .account n, .. } => d.jobEndRelease st n draw
  | _ => d

/-- R48: a refill's answer still under way when the job that asked for it ends. -/
def AccountMail.outlive : AccountMail → AccountMail
  | .refill number answer => .lateRefill number answer
  | m => m

/-- R50: a job ends with its reason; `tell` says whether JOB_END is sent (R10). -/
def Device.endJob (d : Device) (st : Station) (reason : JobEndReason) (tell : Bool) : Device :=
  match (d.ctx st).job with
  | none => d
  | some j =>
    let d := d.modJob st fun j => { j with endReason := some reason }
    let d := if tell then d.send st (.jobEnd reason) else d
    let d := if reason = .complete then d.modMeters st fun m => { m with jobsCompleted := m.jobsCompleted + 1 } else d
    let d := d.modCtx st fun c => { c with waitTimer := none }
    let d := d.releaseDraw st (j.draw.getD 0)
    d.modCtx st fun c => { c with job := none, accountMail := c.accountMail.map AccountMail.outlive }

/-- R143: the session report of a station's session with an end reason. -/
def Device.buildReport (d : Device) (st : Station) (s : Session) (reason : EndReason) : Report :=
  { station := st
    funding := match s.funding with
      | .account n => .account n
      | .card ref => .card (d.slot ref.slot).reference
    bank := s.bank, committedSides := s.committedSides, amountCommitted := s.amountCommitted, jobs := s.jobs
    spoiled := s.spoiled, forgiven := s.forgiven, untracked := s.untracked
    shortfallSides := s.shortfallSides, shortfallAmount := s.shortfallAmount, endReason := reason }

/-- R145: the reports of a station in the queue. -/
def reportsOf (st : Station) (queue : List Report) : Nat := queue.countP fun r => r.station == st

/-- R145: whether an offer of a station finds room. -/
def Device.reportRoom (d : Device) (st : Station) : Bool :=
  decide (d.reports.length < Config.reportCapacity) && decide (reportsOf st d.reports < Config.reportsPerStation)

/-- R145: an accepted offer's report at the tail of the queue. -/
def Device.placeReport (d : Device) (st : Station) (reason : EndReason) : Device :=
  match (d.ctx st).session with
  | some s => { d with reports := d.reports ++ [d.buildReport st s reason] }
  | none => d

/-- R24, third step: the release requests to the owners of a session's funding and bank. A grant, or a late GRANTED answer, that is
still under way to the station is not part of the release: it stays in the draws total until it is handed back (the model's
choice, log 28). -/
def Device.releaseSession (d : Device) (st : Station) : Device :=
  match (d.ctx st).session with
  | none => d
  | some s =>
    let d := match s.funding with
      | .account n => d.sessionRelease st n (match (d.ctx st).job with
        | some j => j.draw.getD 0
        | none => 0)
      | .card ref => d.finalizeSlot ref.slot (d.slot ref.slot).consumed
    d.releaseBank s.bank

/-- R24, third to fifth steps: releases, END unless the carrier is lost, and the removal of the session record and
end pending. -/
def Device.closeSession (d : Device) (st : Station) (reason : EndReason) : Device :=
  let d := d.releaseSession st
  let d := if reason = .carrier then d else d.send st (.sessionEnd reason)
  d.modCtx st fun c => { c with session := none, endPending := none, job := none, roomTold := false }

/-- R22: a session ends: its report is offered; accepted, it is finalized and the station enters IDLE; refused, the
station waits in CLOSING with the reason in end pending. -/
def Device.endSession (d : Device) (st : Station) (reason : EndReason) : Device :=
  if d.reportRoom st then ((d.placeReport st reason).closeSession st reason).enterIdle st
  else (d.enter st .closing).modCtx st fun c => { c with endPending := some reason }

/-- R22, fourth case: the funding source can fund no more. -/
def Device.fundingSpent (d : Device) (st : Station) : Bool :=
  match (d.ctx st).session with
  | some { funding := .card ref, .. } => (d.slot ref.slot).renewalsRefused
  | some { funding := .account n, .. } =>
    match d.account n with
    | some a => a.state == .stopped
    | none => false
  | none => false

/-- R22: the station's next state after a job ended with a reason, its last-job flag as given. -/
def Device.afterJob (d : Device) (st : Station) (reason : JobEndReason) (lastJob : Bool) : Device :=
  match (d.ctx st).endPending with
  | some r => d.endSession st r
  | none =>
    if reason = .complete ∧ lastJob then d.endSession st .auto
    else if reason = .funds ∧ d.fundingSpent st then d.endSession st .fundsEnded
    else d.enterOpen st

/-- R50, R22: a job ends and the session decides what follows. -/
def Device.finishJob (d : Device) (st : Station) (reason : JobEndReason) : Device :=
  match (d.ctx st).job with
  | some j => (d.endJob st reason true).afterJob st reason j.lastJob
  | none => d

/-- R23, R51: the reason of a job that ends in CLOSING. -/
def Device.drainReason (d : Device) (st : Station) : JobEndReason :=
  match (d.ctx st).job with
  | some j => if d.complete st then .complete else if j.stopPending then .stopped else .funds
  | none => .funds

/-- R23, R51: the job of a CLOSING station with an empty path list ends. -/
def Device.drain (d : Device) (st : Station) : Device := d.finishJob st (d.drainReason st)

/-- R24 for a teardown: the path is resolved, the report offered or dropped, and the session closed. -/
def Device.finalizeTorn (d : Device) (st : Station) (reason : EndReason) : Device :=
  let d := d.resolveAll st
  let d := if d.reportRoom st then d.placeReport st reason else d.uplinkDropFault st
  d.closeSession st reason

/-- R10, R71: teardown with a reason of CARRIER, RESET or OUT_OF_SERVICE; the caller gives the next state. -/
def Device.teardown (d : Device) (st : Station) (reason : EndReason) : Device :=
  match (d.ctx st).state with
  | .offline _ | .doze | .idle => d
  | .funding ref =>
    let d := d.abandonSlot ref
    if reason = .carrier then d else d.send st (.cardDeclined .outOfService)
  | .opened => d.finalizeTorn st reason
  | .running | .held | .jammed _ | .closing =>
    ((d.resolveAll st).endJob st .lost (reason ≠ .carrier)).finalizeTorn st reason

/-! ### Funds (R41, R45, R63) -/

/-- R41, R45: a funds renewal asked; accepted sets the request to RENEW, refused sets funds ended. -/
def Device.askRenewal (d : Device) (st : Station) (i : SlotNo) : Device :=
  let r := d.fundsRenewal i
  if r.2 then r.1.modJob st fun j => { j with fundsRequest := .renew }
  else r.1.modJob st fun j => { j with fundsEnded := true }

/-- R41: the funds trigger of a RUNNING station. -/
def Device.fundsTrigger (d : Device) (st : Station) : Device :=
  match (d.ctx st).state, (d.ctx st).session, (d.ctx st).job with
  | .running, some s, some j =>
    if j.stopPending ∨ j.fundsRequest ≠ .none ∨ d.covered st then d
    else match s.funding with
      | .account n =>
        (d.modJob st fun j => { j with fundsRequest := .refill }).modCtx st fun c =>
          { c with refillAsked := some { number := n, oneSheetPrice := d.jobPrice st } }
      | .card ref => (d.askRenewal st ref.slot).enterHeld st
  | _, _, _ => d

/-- R45, R63: the headroom is still short after an approval: another renewal is asked if renewals are allowed, and
funds ended is set if not. -/
def Device.askAgain (d : Device) (st : Station) : Device :=
  match (d.ctx st).session with
  | some { funding := .card ref, .. } => d.askRenewal st ref.slot
  | _ => d

/-- Whether a station's job has stop pending. -/
def Device.stopping (d : Device) (st : Station) : Bool :=
  match (d.ctx st).job with
  | some j => j.stopPending
  | none => false

/-- R45, R63: funds have been applied to a held or jammed job; its request is NONE again. A HELD station that stays HELD
with its headroom short does not enter it anew: no further PAUSE(FUNDS) is sent and the wait timer is not started again
(the model's choice, log 33); with stop pending it seeks no funds (R49, log 22). -/
def Device.fundsArrived (d : Device) (st : Station) : Device :=
  let d := d.modJob st fun j => { j with fundsRequest := .none }
  match (d.ctx st).state with
  | .held => if d.covered st then d.enterRunning st else if d.stopping st then d else d.askAgain st
  | .jammed .held =>
    if d.covered st then d.modCtx st fun c => { c with state := .jammed .running } else d.askAgain st
  | _ => d

/-- R48: a draw added to a job's draw. -/
def Device.addDraw (d : Device) (st : Station) (draw : Nat) : Device :=
  d.modJob st fun j => { j with draw := some (j.draw.getD 0 + draw) }

/-! ### The loss of funding (R19, R21, R51, R64) -/

/-- R20, R21: end pending set with a reason, unless it is set already. -/
def Device.setEndPending (d : Device) (st : Station) (reason : EndReason) : Device :=
  d.modCtx st fun c => { c with endPending := some (c.endPending.getD reason) }

/-- R51, R64: a funds request of WAITING or RENEW returns to NONE; REFILL stays. -/
def Job.dropRequest (j : Job) : Job :=
  match j.fundsRequest with
  | .waiting | .renew => { j with fundsRequest := .none }
  | _ => j

/-- R19, R21, R64: the session's funding is lost, with a reason of HOLD_EXPIRED or ACCOUNT_CLOSED. -/
def Device.loseFunding (d : Device) (st : Station) (reason : EndReason) : Device :=
  match (d.ctx st).state with
  | .opened => d.endSession st reason
  | .running | .held =>
    let d := ((d.setEndPending st reason).sendPause st .funds).enter st .closing
    let d := d.modJob st Job.dropRequest
    if d.pathEmpty st then d.drain st else d
  | .jammed _ =>
    ((d.setEndPending st reason).modCtx st fun c => { c with state := .jammed .closing }).modJob st Job.dropRequest
  | _ => d

/-! ### Admission (R33 to R35) -/

/-- R27: the job record at admission. -/
def JobOrder.job (o : JobOrder) (draw : Option Nat) (request : FundsRequest) : Job :=
  { sheetsPerSet := o.sheetsPerSet, sets := o.sets, sides := o.sides, size := o.size, colour := o.colour
    lastJob := o.lastJob, inner := o.sheetsPerSet, outer := o.sets
    fed := 0, delivered := 0, spoiled := 0, forgiven := 0, surplus := 0, untracked := 0
    stopPending := false, allowance := 0, draw := draw, fundsRequest := request, fundsEnded := false, endReason := none }

/-- R33: the job record created and the session's job count raised. -/
def Device.createJob (d : Device) (st : Station) (j : Job) : Device :=
  d.modCtx st fun c => { c with job := some j, session := c.session.map fun s => { s with jobs := s.jobs + 1 } }

/-- R33, second check: whether an account permits an order. -/
def Account.permits (a : Account) (o : JobOrder) : Bool :=
  (a.colourPermitted || o.colour == .mono) && decide (o.size ≤ a.maxSize)

/-- R34: admission of an account session's job. -/
def Device.admitAccount (d : Device) (st : Station) (s : Session) (number : Nat) (o : JobOrder) :
    Device × Option DenyReason :=
  match d.account number with
  | none => (d, some .noAccount)
  | some a =>
    if a.permits o then
      let r := d.admissionDraw st number (d.oneSheetPrice s.bank (o.job none .none))
      match r.2 with
      | .ok draw => ((r.1.createJob st (o.job (some draw) .none)).enterRunning st, none)
      | .error e => (r.1, some e)
    else (d, some .notAllowed)

/-- R35: admission of a card session's job. -/
def Device.admitCard (d : Device) (st : Station) (s : Session) (i : SlotNo) (o : JobOrder) :
    Device × Option DenyReason :=
  let standing := (d.slot i).state == .active || (d.slot i).state == .renewing
  if standing && decide (d.oneSheetPrice s.bank (o.job none .none) ≤ (d.slot i).headroom) then
    ((d.createJob st (o.job none .none)).enterRunning st, none)
  else if standing && !(d.slot i).renewalsRefused then
    let r := d.fundsRenewal i
    if r.2 then ((r.1.createJob st (o.job none .renew)).enterHeld st, none) else (r.1, some .noFunds)
  else (d, some .noFunds)

/-- R33: admission as from OPEN; none is admitted, else the DENY reason. -/
def Device.admission (d : Device) (st : Station) (order : Option JobOrder) : Device × Option DenyReason :=
  match order, (d.ctx st).session with
  | none, _ => (d, some .badJob)
  | some _, none => (d, some .noSession)
  | some o, some s =>
    match s.funding with
    | .account n => d.admitAccount st s n o
    | .card ref => d.admitCard st s ref.slot o

end Sys2Proof.Machine
end

