-- ==== Sys2Proof/Machine/StationFrames.lean ====
section
/-! DEFINITION. The meanings of the station frames: presentation to the context (R157, R11, R12, R18), routing
(R158), and each frame by the station's state (R5, R14 to R16, R19, R20, R23, R32, R38, R49, R55, R59, R65). -/

namespace Sys2Proof.Machine

/-! ### Presentation (R157) -/

/-- R12: whether a wake mask holds a class. -/
def WakeMask.holds (m : WakeMask) : WakeClass → Bool
  | .card => m.card
  | .keyin => m.keyin
  | .engineOther => m.engineOther

/-- R157: a good frame is presented to the context with its wake class; a frame answered GO ON is then taken by `f`,
a frame answered DISCARD goes no further. -/
def Device.present (d : Device) (st : Station) (wake : Option WakeClass) (f : Device → Device) : Device :=
  match (d.ctx st).state with
  | .idle => f (d.modCtx st fun c => { c with dozeTimer := d.mgmt.params.dozeStart })
  | .opened => f (d.modCtx st fun c => { c with idleTimer := some d.mgmt.params.idleTime })
  | .doze =>
    match wake with
    | none => d.protocolFault st
    | some w => if d.configs[st].wakeMask.holds w then f ((d.send st .wake).enterIdle st) else d.notice .touch (some st)
  | _ => f d

/-- A good station frame: received, presented, and taken by `f` if answered GO ON. -/
def Device.stationFrame (d : Device) (st : Station) (wake : Option WakeClass) (f : Device → Device) : Device :=
  d.receiveStation st fun d => d.present st wake f

/-- R152: a bad station frame. -/
def Device.badStationFrame (d : Device) (st : Station) : Device := d.receiveStation st fun d => d.linkFault st

/-! ### START (R32, R36) -/

/-- A DENY toward a station. -/
def Device.deny (d : Device) (st : Station) (r : DenyReason) : Device := d.send st (.deny r)

/-- R36: the running job is replaced by a new order. -/
def Device.replaceJob (d : Device) (st : Station) (order : Option JobOrder) : Device :=
  let r := (d.endJob st .replaced true).admission st order
  match r.2 with
  | none => r.1
  | some e => (r.1.deny st e).enterOpen st

/-- R32: a START by the station's state. -/
def Device.takeStart (d : Device) (st : Station) (order : Option JobOrder) : Device :=
  match (d.ctx st).state with
  | .offline _ => d.deny st .outOfService
  | .doze => d
  | .idle | .funding _ => d.deny st .noSession
  | .opened =>
    let r := d.admission st order
    match r.2 with
    | none => r.1
    | some e => r.1.deny st e
  | .running => if d.pathEmpty st && (d.ctx st).endPending.isNone then d.replaceJob st order else d.deny st .busy
  | .held | .jammed _ | .closing => d.deny st .busy

/-- START. -/
def execStart (st : Station) (sheetsPerSet sets : Half) (sides size colour lastJob : Byte) (s : State) :
    Host.Outcome State Fault Refusal :=
  s.onDevice fun d => d.stationFrame st (some .engineOther) fun d =>
    d.takeStart st (readOrder sheetsPerSet sets sides size colour lastJob)

/-! ### FEED (R39 to R41) -/

/-- R37: the sheets owed by a job. -/
def Job.owed (j : Job) : Nat := if j.outer = 0 then 0 else (j.outer - 1) * j.sheetsPerSet + j.inner

/-- R30: a fed sheet lowers the stored allowance by its sides. -/
def Job.feed (j : Job) : Job := { j with fed := j.fed + 1, allowance := j.allowance - j.sides }

/-- R39, third check: a sheet fed to a full list. -/
def Device.untrackedSheet (d : Device) (st : Station) : Device :=
  ((d.modJob st fun j => { j.feed with untracked := j.untracked + 1 }).modSession st fun s =>
    { s with untracked := s.untracked + 1 }).protocolFault st

/-- R40: the entry that a FEED makes. -/
def Device.newEntry (d : Device) (st : Station) (s : Session) (j : Job) (ordinal : Half) (size : SizeClass)
    (mode : ColourMode) : PathEntry :=
  let price := j.sides * d.sidePrice s.bank (priceClass size mode)
  let funded := decide (price ≤ d.headroom st)
  { ordinal := ordinal, sides := j.sides, size := size, colour := mode, price := price
    provisional := if funded then price else 0, funded := funded
    surplus := (d.path st).countP (fun e => !e.surplus) == j.owed, mark := none }

/-- R40: the entry joins the list and its charge is reserved. -/
def Device.joinEntry (d : Device) (st : Station) (s : Session) (e : PathEntry) : Device :=
  let d := d.setPath st (d.path st ++ [e])
  match s.funding with
  | .card ref => d.reserveCard ref.slot e.provisional
  | .account _ => d

/-- R40, R31: the list has come to 8 entries: the sticky fault, and PAUSE(PATH_FULL) to a RUNNING station. -/
def Device.pathFilled (d : Device) (st : Station) : Device :=
  if (d.path st).length = Config.pathCapacity then
    let d := d.pathFullFault st
    if (d.ctx st).state = .running then d.sendPause st .pathFull else d
  else d

/-- R39 to R41: a FEED taken with a job. -/
def Device.feedSheet (d : Device) (st : Station) (s : Session) (j : Job) (ordinal : Half) (size colour : Byte) :
    Device :=
  if carries (d.path st) ordinal then d.protocolFault st
  else
    let z := feedSize j.size size
    let c := feedColour j.colour colour
    let d := d.protocolFaultIf (z.2 || c.2) st
    if Config.pathCapacity ≤ (d.path st).length then d.untrackedSheet st
    else
      let d := d.joinEntry st s (d.newEntry st s j ordinal z.1 c.1)
      let d := (d.modJob st Job.feed).pathFilled st
      (d.modCtx st fun c => { c with waitTimer := none }).fundsTrigger st

/-- R39: a FEED by the station's state. -/
def Device.takeFeed (d : Device) (st : Station) (ordinal : Half) (size colour : Byte) : Device :=
  match (d.ctx st).state, (d.ctx st).session, (d.ctx st).job with
  | .running, some s, some j => d.feedSheet st s j ordinal size colour
  | .held, some s, some j => d.feedSheet st s j ordinal size colour
  | .closing, some s, some j => d.feedSheet st s j ordinal size colour
  | _, _, _ => d.protocolFault st

/-- FEED. -/
def execFeed (st : Station) (ordinal : Half) (size colour : Byte) (s : State) : Host.Outcome State Fault Refusal :=
  s.onDevice fun d => d.stationFrame st (some .engineOther) fun d => d.takeFeed st ordinal size colour

/-! ### EXIT (R42, R44, R60) -/

/-- The entry of a path list that carries an ordinal. -/
def Device.entryOf (d : Device) (st : Station) (ordinal : Half) : Option PathEntry :=
  (d.path st).find? fun e => e.ordinal == ordinal

/-- R44: what follows when an entry has left the list by an EXIT; `before` is the list's length before it left. -/
def Device.afterExit (d : Device) (st : Station) (before : Nat) : Device :=
  match (d.ctx st).job with
  | none => d
  | some j =>
    if d.complete st then d.finishJob st .complete
    else if d.pathEmpty st && j.stopPending then d.finishJob st .stopped
    else match (d.ctx st).state with
      | .closing => if d.pathEmpty st then d.drain st else d
      | .held =>
        if d.pathEmpty st then
          if j.fundsEnded then d.finishJob st .funds
          else d.modCtx st fun c => { c with waitTimer := some d.mgmt.params.idleTime }
        else d
      | .running => if before = Config.pathCapacity ∧ (d.path st).length = 7 then d.sendGo st else d
      | _ => d

/-- R42: an EXIT by the station's state; in JAMMED it is a DELIVERED outcome and no test follows (R60). -/
def Device.takeExit (d : Device) (st : Station) (ordinal : Half) : Device :=
  match (d.ctx st).state, (d.ctx st).job, d.entryOf st ordinal with
  | .running, some _, some e => (d.outcomeDelivered st e).afterExit st (d.path st).length
  | .held, some _, some e => (d.outcomeDelivered st e).afterExit st (d.path st).length
  | .closing, some _, some e => (d.outcomeDelivered st e).afterExit st (d.path st).length
  | .jammed _, some _, some e => d.outcomeDelivered st e
  | _, _, _ => d.protocolFault st

/-- EXIT. -/
def execExit (st : Station) (ordinal : Half) (s : State) : Host.Outcome State Fault Refusal :=
  s.onDevice fun d => d.stationFrame st (some .engineOther) fun d => d.takeExit st ordinal

/-! ### JAM (R55 to R57) -/

/-- R55, R57: the marks of a JAM's list, with the fault of R56. -/
def Device.markPath (d : Device) (st : Station) (ordinals : List Half) : Device :=
  (d.protocolFaultIf (jamAtFault (d.path st) ordinals) st).setPath st (markEntries ordinals (d.path st))

/-- R55: a station with a job enters JAMMED with a resume state. -/
def Device.enterJammed (d : Device) (st : Station) (resume : Resume) (ordinals : List Half) : Device :=
  let d := (d.enter st (.jammed resume)).modCtx st fun c => { c with jamTimer := some (d.mgmt.params.jamTime * 60) }
  let d := (d.modMeters st fun m => { m with jams := m.jams + 1 }).notice .jam (some st)
  d.markPath st ordinals

/-- R55: a JAM by the station's state. -/
def Device.takeJam (d : Device) (st : Station) (ordinals : List Half) : Device :=
  match (d.ctx st).state, (d.ctx st).job with
  | .running, some _ => d.enterJammed st .running ordinals
  | .held, some _ => d.enterJammed st .held ordinals
  | .closing, some _ => d.enterJammed st .closing ordinals
  | .jammed _, _ => d.markPath st ordinals
  | _, _ => d.protocolFault st

/-- JAM; a list of more than 8 ordinals is a bad length (R56). -/
def execJam (st : Station) (ordinals : List Half) (s : State) : Host.Outcome State Fault Refusal :=
  s.onDevice fun d =>
    if Config.listLimit < ordinals.length then d.badStationFrame st
    else d.stationFrame st (some .engineOther) fun d => d.takeJam st ordinals

/-! ### CLEAR (R65 to R69) -/

/-- R69: where a station goes from JAMMED. -/
def Device.leaveJam (d : Device) (st : Station) (resume : Resume) : Device :=
  match (d.ctx st).job with
  | none => d
  | some j =>
    if d.complete st then d.finishJob st .complete
    else if d.pathEmpty st && j.stopPending then d.finishJob st .stopped
    else match resume with
      | .closing =>
        let d := d.enter st .closing
        if d.pathEmpty st then d.drain st else d.sendPause st .funds
      | .held => if d.pathEmpty st && j.fundsEnded then d.finishJob st .funds else d.enterHeld st
      | .running =>
        if d.pathEmpty st && j.fundsEnded then d.finishJob st .funds
        else
          let d := d.enter st .running
          if !j.stopPending && j.fundsRequest == .none && !d.covered st then d.fundsTrigger st else d.announceRunning st

/-- R65: a CLEAR by the station's state. -/
def Device.takeClear (d : Device) (st : Station) (items : List (Half × Byte)) : Device :=
  match (d.ctx st).state with
  | .jammed resume =>
    let r := clearItems (d.path st) [] items
    let d := d.protocolFaultIf r.2 st
    let d := (d.path st).foldl (fun x e => x.clearEntry st r.1 e) d
    (d.unmark st).leaveJam st resume
  | _ => d.protocolFault st

/-- CLEAR; a list of more than 8 items is a bad length (R65). -/
def execClear (st : Station) (items : List (Half × Byte)) (s : State) : Host.Outcome State Fault Refusal :=
  s.onDevice fun d =>
    if Config.listLimit < items.length then d.badStationFrame st
    else d.stationFrame st (some .engineOther) fun d => d.takeClear st items

/-! ### STOP (R49, R61, R23) -/

/-- R49: stop pending set, and the station withdrawn from the account's waiting list. -/
def Device.setStop (d : Device) (st : Station) : Device :=
  match (d.ctx st).session, (d.ctx st).job with
  | some { funding := .account n, .. }, some { fundsRequest := .waiting, .. } =>
    (d.modJob st fun j => { j with stopPending := true, fundsRequest := .none }).leaveWaiting st n
  | _, _ => d.modJob st fun j => { j with stopPending := true }

/-- R49: a STOP by the station's state. -/
def Device.takeStop (d : Device) (st : Station) : Device :=
  match (d.ctx st).job with
  | none => d
  | some j =>
    if j.stopPending then d
    else match (d.ctx st).state with
      | .running | .held =>
        let d := d.setStop st
        if d.pathEmpty st then d.finishJob st (if d.complete st then .complete else .stopped) else d
      | .jammed _ => d.setStop st
      | .closing => d.modJob st fun j => { j with stopPending := true }
      | _ => d

/-- STOP. -/
def execStop (st : Station) (s : State) : Host.Outcome State Fault Refusal :=
  s.onDevice fun d => d.stationFrame st (some .engineOther) fun d => d.takeStop st

/-! ### KEYIN (R14) -/

/-- R3: a session record with all totals 0. -/
def newSession (funding : Funding) (bank : BankName) : Session :=
  { funding := funding, bank := bank, committedSides := Vector.replicate 8 0, amountCommitted := 0, jobs := 0
    spoiled := 0, forgiven := 0, untracked := 0, shortfallSides := 0, shortfallAmount := 0 }

/-- R14, R16, R75: a session created, its bank bound, and the station OPEN. -/
def Device.openSession (d : Device) (st : Station) (funding : Funding) : Device :=
  let r := d.bindBank
  (r.1.modCtx st fun c => { c with session := some (newSession funding r.2) }).enterOpen st

/-- R74: whether the selected bank is LOADED. -/
def Device.tariffReady (d : Device) : Bool := (d.tariff.get d.tariff.selector).loaded

/-- R14: a KEYIN in IDLE. -/
def Device.checkKeyin (d : Device) (st : Station) (number : Nat) (pin : Half) : Device :=
  if d.tariffReady then
    let r := d.credentialCheck st number pin
    match r.2 with
    | some e => r.1.deny st e
    | none => r.1.openSession st (.account number)
  else d.deny st .noTariff

/-- A KEYIN by the station's state. -/
def Device.takeKeyin (d : Device) (st : Station) (number : Nat) (pin : Half) : Device :=
  match (d.ctx st).state with
  | .offline _ => d.deny st .outOfService
  | .doze => d
  | .idle => d.checkKeyin st number pin
  | .funding _ | .opened | .running | .held | .jammed _ | .closing => d.deny st .busy

/-- KEYIN. -/
def execKeyin (st : Station) (account : Amount24) (pin : Half) (s : State) : Host.Outcome State Fault Refusal :=
  s.onDevice fun d => d.stationFrame st (some .keyin) fun d => d.takeKeyin st account.toNat pin

/-! ### LOGOUT (R19, R20) -/

/-- A LOGOUT by the station's state. -/
def Device.takeLogout (d : Device) (st : Station) : Device :=
  match (d.ctx st).state with
  | .opened => d.endSession st .logout
  | .running | .held | .jammed _ => d.setEndPending st .logout
  | .offline _ | .doze | .idle | .funding _ | .closing => d

/-- LOGOUT. -/
def execLogout (st : Station) (s : State) : Host.Outcome State Fault Refusal :=
  s.onDevice fun d => d.stationFrame st (some .engineOther) fun d => d.takeLogout st

/-! ### SERVICE (R159) -/

/-- R159: a SERVICE frame on the pass-through path. -/
def Device.takeService (d : Device) (st : Station) (payload : List Byte) : Device :=
  match d.configs[st].forward with
  | .block => d
  | .pass =>
    if d.serviceUp.length < Config.serviceUpCapacity then
      { d with serviceUp := d.serviceUp ++ [{ station := st, payload := payload }] }
    else d.uplinkDropFault st

/-- SERVICE; a payload of 0 or more than 48 bytes is a bad length (R152). -/
def execService (st : Station) (payload : List Byte) (s : State) : Host.Outcome State Fault Refusal :=
  s.onDevice fun d =>
    if textFits payload then d.stationFrame st (some .engineOther) fun d => d.takeService st payload
    else d.badStationFrame st

/-! ### CARD (R15) and CARD_OUT (R16, R19, R20) -/

/-- A CARD_DECLINED toward a station. -/
def Device.decline (d : Device) (st : Station) (r : CardReason) : Device := d.send st (.cardDeclined r)

/-- R15: a CARD in IDLE. With no FREE slot, which R108 rules out, it is declined BUSY (log 24). -/
def Device.checkCard (d : Device) (st : Station) (token : List Byte) : Device :=
  if d.tariffReady then
    if Config.slotsPerStation ≤ d.slotsOwned st then d.decline st .busy
    else match d.lowestFree with
      | some i =>
        let d := d.takeSlot i st token
        d.enter st (.funding (d.slotRef i))
      | none => d.decline st .busy
  else d.decline st .noTariff

/-- A CARD by the station's state. -/
def Device.takeCard (d : Device) (st : Station) (token : List Byte) : Device :=
  match (d.ctx st).state with
  | .offline _ => d.decline st .outOfService
  | .doze => d
  | .idle => d.checkCard st token
  | .funding _ | .opened | .running | .held | .jammed _ | .closing => d.decline st .busy

/-- CARD; a token that is not 16 bytes is a bad length (R204). -/
def execCard (st : Station) (token : List Byte) (s : State) : Host.Outcome State Fault Refusal :=
  s.onDevice fun d =>
    if token.length = Config.tokenLength then d.stationFrame st (some .card) fun d => d.takeCard st token
    else d.badStationFrame st

/-- Whether a context holds a card session. -/
def Context.cardSession (c : Context) : Bool :=
  match c.session with
  | some { funding := .card _, .. } => true
  | _ => false

/-- A CARD_OUT by the station's state. -/
def Device.takeCardOut (d : Device) (st : Station) : Device :=
  match (d.ctx st).state with
  | .funding ref => (d.abandonSlot ref).enterIdle st
  | .opened => if (d.ctx st).cardSession then d.endSession st .cardOut else d
  | .running | .held | .jammed _ => if (d.ctx st).cardSession then d.setEndPending st .cardOut else d
  | .offline _ | .doze | .idle | .closing => d

/-- CARD_OUT. -/
def execCardOut (st : Station) (s : State) : Host.Outcome State Fault Refusal :=
  s.onDevice fun d => d.stationFrame st (some .card) fun d => d.takeCardOut st

/-! ### Frames that are not routed (R152, R158) -/

/-- STATION_BAD_FRAME. -/
def execStationBadFrame (st : Station) (s : State) : Host.Outcome State Fault Refusal :=
  s.onDevice fun d => d.badStationFrame st

/-- R12, R157: the wake class of a frame that is not routed, by its endpoint. -/
def unroutedWake (endpoint : Byte) : Option WakeClass :=
  if endpoint = endpointCard then some .card else if endpoint = endpointEngine then some .engineOther else none

/-- STATION_UNROUTED_FRAME; a pair that the classifier routes is no such frame (log 19). -/
def execStationUnroutedFrame (st : Station) (endpoint kind : Byte) (s : State) : Host.Outcome State Fault Refusal :=
  s.onDevice fun d =>
    if routedPair endpoint kind then d
    else d.stationFrame st (unroutedWake endpoint) fun d => d.protocolFault st

end Sys2Proof.Machine
end

