-- ==== Sys2Proof/Machine/StationLine.lean ====
section
/-! DEFINITION. The meanings of the events at a station's line and of the timers of its context: carrier (R6, R7,
R153), start delimiter and transmitter (R151), and the doze, idle, wait and jam timers (R11, R18, R47, R58, R70). -/

namespace Sys2Proof.Machine

/-! ### Carrier -/

/-- R6: the session engine's part of a loss of carrier. A station in OFFLINE(service) stays there, as R6 says, against a row of R188
(log 17). -/
def Device.contextCarrierLoss (d : Device) (st : Station) : Device :=
  match (d.ctx st).state with
  | .offline _ => d
  | _ => (d.teardown st .carrier).enter st (.offline .carrier)

/-- R153: the port's part of a loss of carrier. -/
def Port.loseCarrier (_p : Port) : Port := Port.powerOn false

/-- R153, R6: a station's carrier is lost. -/
def Device.takeCarrierLoss (d : Device) (st : Station) : Device :=
  if (d.port st).carrier then
    ((d.modPort st Port.loseCarrier).notice .carrier (some st)).contextCarrierLoss st
  else d

/-- STATION_CARRIER_LOSS: the input changes; the part takes the event unless RESET is asserted (R168). -/
def execStationCarrierLoss (st : Station) (s : State) : Host.Outcome State Fault Refusal :=
  s.onDevice fun d =>
    { d with carrierDetect := d.carrierDetect.set st false }.running fun d => d.takeCarrierLoss st

/-- R7: the session engine's part of a return of carrier. -/
def Device.contextCarrierReturn (d : Device) (st : Station) : Device :=
  match (d.ctx st).state with
  | .offline .carrier => if d.configs[st].inService then d.enterIdle st else d.enter st (.offline .service)
  | _ => d

/-- R153, R7: a station's carrier returns. -/
def Device.takeCarrierReturn (d : Device) (st : Station) : Device :=
  if (d.port st).carrier then d
  else ((d.modPort st fun p => { p with carrier := true }).notice .carrier (some st)).contextCarrierReturn st

/-- STATION_CARRIER_RETURN. -/
def execStationCarrierReturn (st : Station) (s : State) : Host.Outcome State Fault Refusal :=
  s.onDevice fun d =>
    { d with carrierDetect := d.carrierDetect.set st true }.running fun d => d.takeCarrierReturn st

/-! ### The line (R151) -/

/-- R151: a start delimiter at a port: taken by a WAITING receiver while the carrier is PRESENT and the transmitter
IDLE. -/
def Port.takeDelimiter (p : Port) : Port := if p.lineFree then { p with receiver := .receiving } else p

/-- STATION_START_DELIMITER. -/
def execStationStartDelimiter (st : Station) (s : State) : Host.Outcome State Fault Refusal :=
  s.onDevice fun d => d.running fun d => d.modPort st Port.takeDelimiter

/-- STATION_TRANSMIT_START. -/
def execStationTransmitStart (st : Station) (s : State) : Host.Outcome State Fault Refusal :=
  s.onDevice fun d => d.running fun d => d.transmit st

/-- R151: the last byte of the frame being sent is on the line; the next frame begins at once. -/
def Port.frameSent (p : Port) : Port :=
  match p.transmitter with
  | .sending _ => p.beginNext
  | .idle => p

/-- STATION_FRAME_SENT. -/
def execStationFrameSent (st : Station) (s : State) : Host.Outcome State Fault Refusal :=
  s.onDevice fun d => d.running fun d => d.modPort st Port.frameSent

/-! ### Timers -/

/-- R11: the doze timer of an IDLE station runs out. -/
def Device.takeDozeExpiry (d : Device) (st : Station) : Device :=
  if (d.ctx st).state = .idle ∧ (d.ctx st).dozeTimer = some 0 then (d.send st .sleep).enter st .doze else d

/-- DOZE_TIMER_EXPIRY. -/
def execDozeTimerExpiry (st : Station) (s : State) : Host.Outcome State Fault Refusal :=
  s.onDevice fun d => d.running fun d => d.takeDozeExpiry st

/-- R18: the idle timer of an OPEN station runs out. -/
def Device.takeIdleExpiry (d : Device) (st : Station) : Device :=
  if (d.ctx st).state = .opened ∧ (d.ctx st).idleTimer = some 0 then d.endSession st .idle else d

/-- IDLE_TIMER_EXPIRY. -/
def execIdleTimerExpiry (st : Station) (s : State) : Host.Outcome State Fault Refusal :=
  s.onDevice fun d => d.running fun d => d.takeIdleExpiry st

/-- R47: the wait timer of a HELD station runs out. -/
def Device.takeWaitExpiry (d : Device) (st : Station) : Device :=
  if (d.ctx st).state = .held ∧ (d.ctx st).waitTimer = some 0 then d.finishJob st .funds else d

/-- WAIT_TIMER_EXPIRY. -/
def execWaitTimerExpiry (st : Station) (s : State) : Host.Outcome State Fault Refusal :=
  s.onDevice fun d => d.running fun d => d.takeWaitExpiry st

/-- R70: abandonment. -/
def Device.abandonJob (d : Device) (st : Station) : Device :=
  match (d.ctx st).job with
  | none => d
  | some j => (((d.resolveAll st).endJob st .abandoned true).notice .jamAbandoned (some st)).afterJob st .abandoned j.lastJob

/-- Whether a station is JAMMED. -/
def StationState.isJammed : StationState → Bool
  | .jammed _ => true
  | _ => false

/-- R58: the jam timer of a JAMMED station runs out. -/
def Device.takeJamExpiry (d : Device) (st : Station) : Device :=
  if (d.ctx st).state.isJammed ∧ (d.ctx st).jamTimer = some 0 then d.abandonJob st else d

/-- JAM_TIMER_EXPIRY. -/
def execJamTimerExpiry (st : Station) (s : State) : Host.Outcome State Fault Refusal :=
  s.onDevice fun d => d.running fun d => d.takeJamExpiry st

end Sys2Proof.Machine
end

