-- ==== Sys2Proof/Machine/UplinkFrames.lean ====
section
/-! DEFINITION. The meanings of the uplink frames (R162, R163, R205): the results of payment requests (R113 to R129),
TEXT_DOWN (R161), MGMT (R172), and the frames that are bad or not routed. -/

namespace Sys2Proof.Machine

/-- R162: a bad uplink frame. -/
def Device.badUplinkFrame (d : Device) : Device := d.receiveUplink fun d => d.notice .link none

/-! ### AUTH_RESULT (R113, R114, R116, R117, R120, R205) -/

/-- R205: the gateway reference of an approving AUTH_RESULT; none for a decline. -/
def approvingReference (approved : Amount24) (reference : Option Reference) : Option Reference :=
  if approved = 0 then none else reference

/-- R113: a stale AUTH_RESULT. A decline is discarded, and so is the repeat of the approval that the slot holds. -/
def Device.staleAuth (d : Device) (slot generation : Byte) (approving : Option Reference) : Device :=
  match approving with
  | none => d
  | some ref =>
    match d.matchRef slot generation with
    | some i => if (d.slot i).reference = some ref then d else d.staleApproval ref
    | none => d.staleApproval ref

/-- R116, R117, R120: an AUTH_RESULT that names slot `i` by its present generation, with its approval if it approves. -/
def Device.authResultAt (d : Device) (i : SlotNo) (approved : Nat) (lifetime : Byte) (approving : Option Reference) :
    Option Device :=
  if (d.slot i).state = .authorizing ∧ (d.slot i).awaits .auth then
    some (match approving with
      | some ref => d.approveAuth i ref approved lifetime
      | none => d.declineAuth i)
  else if (d.slot i).state = .lapsed then
    some (match approving with
      | some ref => d.voidLate i ref
      | none => d.freeSlot i)
  else none

/-- R113: an AUTH_RESULT matched to its slot, or stale. -/
def Device.takeAuthResult (d : Device) (slot generation : Byte) (approved : Amount24) (lifetime : Byte)
    (reference : Option Reference) : Device :=
  let approving := approvingReference approved reference
  match (d.matchRef slot generation).bind fun i => d.authResultAt i approved.toNat lifetime approving with
  | some d1 => d1
  | none => d.staleAuth slot generation approving

/-- AUTH_RESULT. -/
def execAuthResult (slot generation : Byte) (approved : Amount24) (lifetime : Byte) (reference : Option Reference)
    (s : State) : Host.Outcome State Fault Refusal :=
  s.onDevice fun d => d.receiveUplink fun d => d.takeAuthResult slot generation approved lifetime reference

/-! ### RENEW_RESULT (R113, R124, R125, R129) -/

/-- R124, R125: a RENEW_RESULT matched to a slot in RENEWING. -/
def Device.renewResultAt (d : Device) (i : SlotNo) (approved : Nat) (lifetime : Byte) : Device :=
  if 0 < approved ∧ (d.slot i).approved ≤ approved then d.approveRenewal i approved lifetime else d.refuseRenewal i

/-- R113: a RENEW_RESULT by the state of the slot it names. -/
def Device.takeRenewResult (d : Device) (slot generation : Byte) (approved : Amount24) (lifetime : Byte) : Device :=
  match d.matchRef slot generation with
  | none => d
  | some i =>
    if (d.slot i).awaits .renew then
      match (d.slot i).state with
      | .renewing => d.renewResultAt i approved.toNat lifetime
      | .capturing | .voiding => d.releaseFinal i
      | _ => d
    else d

/-- RENEW_RESULT. -/
def execRenewResult (slot generation : Byte) (approved : Amount24) (lifetime : Byte) (s : State) :
    Host.Outcome State Fault Refusal :=
  s.onDevice fun d => d.receiveUplink fun d => d.takeRenewResult slot generation approved lifetime

/-! ### CAPTURE_DONE and VOID_DONE (R113, R128) -/

/-- The outcome code TAKEN (R207); any other is taken as REFUSED (R205). -/
def outcomeTaken : Byte := 0x01#8

/-- R128: a CAPTURE_DONE. -/
def Device.takeCaptureDone (d : Device) (slot generation outcome : Byte) : Device :=
  match d.matchRef slot generation with
  | none => d
  | some i =>
    if (d.slot i).state = .capturing ∧ (d.slot i).awaits .capture then d.endFinal i (outcome != outcomeTaken) else d

/-- CAPTURE_DONE. -/
def execCaptureDone (slot generation outcome : Byte) (s : State) : Host.Outcome State Fault Refusal :=
  s.onDevice fun d => d.receiveUplink fun d => d.takeCaptureDone slot generation outcome

/-- R128: a VOID_DONE; one that names no slot is the answer to a stale void and is discarded (R113). -/
def Device.takeVoidDone (d : Device) (slot generation : Byte) : Device :=
  match d.matchRef slot generation with
  | none => d
  | some i => if (d.slot i).state = .voiding ∧ (d.slot i).awaits .void then d.endFinal i false else d

/-- VOID_DONE. -/
def execVoidDone (slot generation : Byte) (s : State) : Host.Outcome State Fault Refusal :=
  s.onDevice fun d => d.receiveUplink fun d => d.takeVoidDone slot generation

/-! ### TEXT_DOWN (R161) -/

/-- R161: a TEXT frame at the tail of a station's text queue. -/
def Device.queueText (d : Device) (st : Station) (text : List Byte) : Device :=
  if (d.port st).carrier = false then d
  else if Config.textQueueCapacity ≤ (d.port st).textQueue.length then d.uplinkDropFault st
  else d.modPort st fun p => { p with textQueue := p.textQueue ++ [text] }

/-- R161: a TEXT_DOWN by the station it names. -/
def Device.takeTextDown (d : Device) (station : Byte) (text : List Byte) : Device :=
  match readStation station with
  | none => d.notice .protocol none
  | some st => d.queueText st text

/-- TEXT_DOWN; a text of 0 or more than 48 bytes is a bad length (R205). -/
def execTextDown (station : Byte) (text : List Byte) (s : State) : Host.Outcome State Fault Refusal :=
  s.onDevice fun d =>
    if textFits text then d.receiveUplink fun d => d.takeTextDown station text else d.badUplinkFrame

/-! ### MGMT (R172) -/

/-- R172: a request at the tail of the input queue, or discarded with UPLINK_DROP. -/
def Device.takeMgmt (d : Device) (r : MgmtRequest) : Device :=
  if d.mgmt.input.length < Config.inputCapacity then { d with mgmt := { d.mgmt with input := d.mgmt.input ++ [r] } }
  else d.notice .uplinkDrop none

/-- MGMT; more parameters than the payload limit leaves room for are a bad length (R162, R205). -/
def execMgmt (tag : Half) (kind : Byte) (params : List Byte) (s : State) : Host.Outcome State Fault Refusal :=
  s.onDevice fun d =>
    if params.length ≤ Config.paramLimit then
      d.receiveUplink fun d => d.takeMgmt { tag := tag, kind := kind, params := params }
    else d.badUplinkFrame

/-! ### Frames that are bad or not routed -/

/-- UPLINK_BAD_FRAME. -/
def execUplinkBadFrame (s : State) : Host.Outcome State Fault Refusal :=
  s.onDevice fun d => d.badUplinkFrame

/-- UPLINK_UNROUTED_FRAME (R163); a kind that the classifier routes is no such frame (log 19). -/
def execUplinkUnroutedFrame (kind : Byte) (s : State) : Host.Outcome State Fault Refusal :=
  s.onDevice fun d =>
    if routedUplinkKind kind then d else d.receiveUplink fun d => d.notice .protocol none

end Sys2Proof.Machine
end

