-- ==== Sys2Proof/Machine/Billing.lean ====
section
/-! DEFINITION. Billing periods and the export (R133 to R142): the closing of a period, the walk of the table, and the
reports that a BILL or an EXPORT_END has been sent. -/

namespace Sys2Proof.Machine

/-- R137: the entry with the lowest number above the cursor whose CLOSED record is not zero; the table is in ascending
order of number (R82). -/
def nextBill (cursor : Nat) (table : List Account) : Option Account :=
  table.find? fun a => decide (cursor < a.number) && !a.closedRecord.isZero

/-- R137, R138, R140: a step of the walk builds the next BILL, or the EXPORT_END. -/
def Device.walkStep (d : Device) : Device :=
  let e := d.exporting
  { d with exporting := { e with
      frame := some (match nextBill e.cursor d.accounts with
        | some a => .bill e.exportedPeriod a.number a.closedRecord
        | none => .finish e.exportedPeriod e.billsSent) } }

/-- R135: an entry's LIVE record becomes its CLOSED record. -/
def Account.turnPeriod (a : Account) : Account := { a with live := .zero, closedRecord := a.live }

/-- R135: an accepted close. -/
def Device.closePeriod (d : Device) : Device :=
  let table := d.accounts.map Account.turnPeriod
  Device.walkStep { d with
    accounts := table
    exporting :=
      { period := d.exporting.period + 1, running := true, exportedPeriod := d.exporting.period, cursor := 0
        billsExpected := table.countP fun a => !a.closedRecord.isZero, billsSent := 0, frame := none } }

/-- R139: a BILL has been sent. -/
def Device.billSent (d : Device) (number : Nat) : Device :=
  let d := d.modAccount number fun a => { a with closedRecord := .zero }
  Device.walkStep { d with
    exporting := { d.exporting with cursor := number, billsSent := d.exporting.billsSent + 1, frame := none } }

/-- R140: the EXPORT_END has been sent. -/
def Device.exportEndSent (d : Device) : Device :=
  { d with exporting := { d.exporting with running := false, frame := none } }.notice .exportDone none

/-- R139, R140: the export frame has been sent. -/
def Device.exportFrameSent (d : Device) : Device :=
  match d.exporting.frame with
  | some (.bill _ number _) => d.billSent number
  | some (.finish _ _) => d.exportEndSent
  | none => d

/-- R135, R206: the export state of a reply. -/
def Exporting.view (e : Exporting) : ExportView :=
  { period := e.period, exportedPeriod := e.exportedPeriod, running := e.running, cursor := e.cursor
    billsExpected := e.billsExpected, billsSent := e.billsSent }

end Sys2Proof.Machine
end

