-- ==== Sys2Proof/Machine/UplinkLine.lean ====
section
/-! DEFINITION. The meanings of the events at the uplink's line: start delimiter (R162), carrier (R166, R167), the arbiter's
choice (R164, R111, R123, R195) and the report that a frame has been sent (R165, R139, R140, R146, R160, R190). -/

namespace Sys2Proof.Machine

/-! ### Start delimiter and carrier -/

/-- A change of the uplink port. -/
def Device.modUplink (d : Device) (f : Uplink → Uplink) : Device := { d with uplink := f d.uplink }

/-- R162, R201: a start delimiter at the uplink port; the receiver works whatever the transmitter does. -/
def Uplink.takeDelimiter (u : Uplink) : Uplink := if u.carrier then { u with receiver := .receiving } else u

/-- UPLINK_START_DELIMITER. -/
def execUplinkStartDelimiter (s : State) : Host.Outcome State Fault Refusal :=
  s.onDevice fun d => d.running fun d => d.modUplink Uplink.takeDelimiter

/-- R166: the uplink carrier is lost; the transmitter keeps its frame. -/
def Device.takeUplinkLoss (d : Device) : Device :=
  if d.uplink.carrier then
    (d.modUplink fun u => { u with carrier := false, receiver := .waiting }).notice .carrier none
  else d

/-- UPLINK_CARRIER_LOSS. -/
def execUplinkCarrierLoss (s : State) : Host.Outcome State Fault Refusal :=
  s.onDevice fun d => { d with uplinkDetect := false }.running Device.takeUplinkLoss

/-- R167: whether a payment frame still stands: its request is still OUTSTANDING under the same slot reference. -/
def Device.requestStands (d : Device) (ref : SlotRef) (kind : RequestKind) : Bool :=
  (d.slot ref.slot).generation == ref.generation && (d.slot ref.slot).awaits kind

/-- R167: whether a held frame still stands when the carrier returns. -/
def Device.frameStands (d : Device) : UplinkFrame → Bool
  | .authReq ref _ _ _ => d.requestStands ref .auth
  | .renewReq ref _ _ => d.requestStands ref .renew
  | .capture ref _ _ => d.requestStands ref .capture
  | .void (some ref) _ => d.requestStands ref .void
  | _ => true

/-- R167: a held frame that no longer stands is dropped. -/
def Device.dropFallen (d : Device) : Device :=
  match d.uplink.transmitter with
  | .holding _ f => if d.frameStands f then d else d.modUplink fun u => { u with transmitter := .free }
  | .free => d

/-- R167: the uplink carrier returns. -/
def Device.takeUplinkReturn (d : Device) : Device :=
  if d.uplink.carrier then d
  else ((d.modUplink fun u => { u with carrier := true }).notice .carrier none).dropFallen

/-- UPLINK_CARRIER_RETURN. -/
def execUplinkCarrierReturn (s : State) : Host.Outcome State Fault Refusal :=
  s.onDevice fun d => { d with uplinkDetect := true }.running Device.takeUplinkReturn

/-! ### ARBITER_CHOICE (R164) -/

/-- The transmitter takes a frame from a source. -/
def Device.hold (d : Device) (source : Source) (f : UplinkFrame) : Device :=
  d.modUplink fun u => { u with transmitter := .holding source f }

/-- R111: whether the head of the payment request queue may be sent. -/
def Device.requestReady (d : Device) : Bool :=
  !d.payQueue.isEmpty && decide (d.outstanding < d.mgmt.params.outstandingLimit)

/-- R164: the sources in the arbiter's order. -/
def sources : List Source := [.reply, .payment, .notice, .sessionReport, .serviceUp, .billing]

/-- R164: whether a source is ready. -/
def Device.ready (d : Device) : Source → Bool
  | .reply => !d.mgmt.replies.isEmpty
  | .payment => !d.staleVoids.isEmpty || d.requestReady
  | .notice => d.notices.waiting
  | .sessionReport => !d.reports.isEmpty
  | .serviceUp => !d.serviceUp.isEmpty
  | .billing => d.exporting.frame.isSome

/-- R123: the new amount of a RENEW_REQ. -/
def renewAmount (approved : Nat) (funds : Bool) (increment : Nat) : Nat :=
  if funds then min (approved + increment) Config.maxAmount else approved

/-- R111: the frame of a payment request, built from its slot as it stands. -/
def Device.requestFrame (d : Device) (e : QueueEntry) : UplinkFrame :=
  let s := d.slot e.ref.slot
  match e.kind with
  | .auth => .authReq e.ref s.owner (s.token.getD []) (s.asked.getD 0)
  | .renew => .renewReq e.ref s.reference (renewAmount s.approved s.fundsMarked d.mgmt.params.renewalIncrement)
  | .capture => .capture e.ref s.reference (match s.request with
    | some r => r.amount
    | none => 0)
  | .void => .void (some e.ref) s.reference

/-- R111: a request becomes OUTSTANDING, its timer at the authorization timeout; an AUTH's token is erased. -/
def Slot.sendRequest (s : Slot) (kind : RequestKind) (timeout : Nat) : Slot :=
  { s with request := s.request.map fun r => { r with place := .outstanding timeout }
           token := if kind = .auth then none else s.token }

/-- R111: the payment unit sends the head of its queue. -/
def Device.sendRequest (d : Device) (e : QueueEntry) (rest : List QueueEntry) : Device :=
  let frame := d.requestFrame e
  let d := d.modSlot e.ref.slot fun s => s.sendRequest e.kind d.mgmt.params.authTimeout
  { d with payQueue := rest, outstanding := d.outstanding + 1 }.hold .payment frame

/-- R111, R114: the payment source builds its frame, a stale VOID first. -/
def Device.choosePayment (d : Device) : Device :=
  match d.staleVoids, d.payQueue with
  | ref :: rest, _ => { d with staleVoids := rest }.hold .payment (.void none (some ref))
  | [], e :: rest => d.sendRequest e rest
  | [], [] => d

/-- R195: the NOTICE frame. -/
def Notices.frame (n : Notices) : UplinkFrame := .notice n.liveSet n.lead n.liveStations

/-- R195: the NOTICE source builds its frame and clears the notice-waiting flag. -/
def Device.chooseNotice (d : Device) : Device :=
  { d with notices := { d.notices with waiting := false } }.hold .notice d.notices.frame

/-- R138, R140: an export frame as the uplink carries it. -/
def ExportFrame.uplink : ExportFrame → UplinkFrame
  | .bill period number record => .bill period number record
  | .finish period sent => .exportEnd period sent

/-- R164: the chosen source builds its frame and hands it to the transmitter. -/
def Device.choose (d : Device) : Source → Device
  | .reply =>
    match d.mgmt.replies with
    | r :: _ => d.hold .reply (.reply r)
    | [] => d
  | .payment => d.choosePayment
  | .notice => d.chooseNotice
  | .sessionReport =>
    match d.reports with
    | r :: _ => d.hold .sessionReport (.sessionReport r)
    | [] => d
  | .serviceUp =>
    match d.serviceUp with
    | i :: _ => d.hold .serviceUp (.serviceUp i.station i.payload)
    | [] => d
  | .billing =>
    match d.exporting.frame with
    | some f => d.hold .billing f.uplink
    | none => d

/-- R164: the arbiter's choice. -/
def Device.arbitrate (d : Device) : Device :=
  if d.uplink.carrier ∧ d.uplink.transmitter = .free then
    match sources.find? d.ready with
    | some source => d.choose source
    | none => d
  else d

/-- ARBITER_CHOICE. -/
def execArbiterChoice (s : State) : Host.Outcome State Fault Refusal :=
  s.onDevice fun d => d.running Device.arbitrate

/-! ### UPLINK_FRAME_SENT (R165) -/

/-- R190, R169: the part enters its power-on state, its carrier-detect inputs read afresh. -/
def Device.restartNow (d : Device) : Device := Device.powerOn d.carrierDetect d.uplinkDetect d.freeCount

/-- R175, R190: a REPLY has been sent; the last one while restart is taken is the reply to RESTART (log 15). -/
def Device.replySent (d : Device) : Device :=
  let d := { d with mgmt := { d.mgmt with replies := d.mgmt.replies.tail } }
  if d.mgmt.restartTaken ∧ d.mgmt.replies = [] then d.restartNow else d

/-- R147: a station that waits in CLOSING without a job is told that room has appeared. -/
def Context.tellRoom (c : Context) : Context :=
  if c.state = .closing ∧ c.job = none then { c with roomTold := true } else c

/-- R146: a SESSION_REPORT has been sent. -/
def Device.reportSent (d : Device) : Device :=
  { d with reports := d.reports.tail, contexts := d.contexts.map Context.tellRoom }

/-- R165: what the report of a sent frame does at its source. -/
def Device.sourceSent (d : Device) : Source → Device
  | .reply => d.replySent
  | .payment => d
  | .notice => d
  | .sessionReport => d.reportSent
  | .serviceUp => { d with serviceUp := d.serviceUp.tail }
  | .billing => d.exportFrameSent

/-- R165: the last byte of the held frame is on the line. -/
def Device.takeUplinkSent (d : Device) : Device :=
  match d.uplink.transmitter with
  | .holding source _ =>
    if d.uplink.carrier then (d.modUplink fun u => { u with transmitter := .free }).sourceSent source else d
  | .free => d

/-- UPLINK_FRAME_SENT. -/
def execUplinkFrameSent (s : State) : Host.Outcome State Fault Refusal :=
  s.onDevice fun d => d.running Device.takeUplinkSent

end Sys2Proof.Machine
end

