-- ==== Sys2Proof/Machine/PaymentTimers.lean ====
section
/-! DEFINITION. The meanings of the timers of the payment unit: request timers (R112, R118, R125, R128, R129), the lapse
timer (R120), the end of a hold's lifetime (R126), and the timebase (R1, R121, R184). -/

namespace Sys2Proof.Machine

/-- R118: the timer of an outstanding AUTH runs out. -/
def Device.takeAuthTimeout (d : Device) (i : SlotNo) : Device :=
  if (d.slot i).state = .authorizing ∧ (d.slot i).timedOut .auth then
    ((d.endOutstanding i).lapse i).payReport i .timeout
  else d

/-- AUTH_TIMEOUT. -/
def execAuthTimeout (slot : SlotNo) (s : State) : Host.Outcome State Fault Refusal :=
  s.onDevice fun d => d.running fun d => d.takeAuthTimeout slot

/-- R125, R129: the timer of an outstanding RENEW runs out. -/
def Device.takeRenewTimeout (d : Device) (i : SlotNo) : Device :=
  if (d.slot i).timedOut .renew then
    match (d.slot i).state with
    | .renewing => d.refuseRenewal i
    | .capturing | .voiding => d.releaseFinal i
    | _ => d
  else d

/-- RENEW_TIMEOUT. -/
def execRenewTimeout (slot : SlotNo) (s : State) : Host.Outcome State Fault Refusal :=
  s.onDevice fun d => d.running fun d => d.takeRenewTimeout slot

/-- R128: the timer of an outstanding CAPTURE or VOID runs out. -/
def Device.takeFinalTimeout (d : Device) (i : SlotNo) : Device :=
  if (d.slot i).timedOut .capture ∨ (d.slot i).timedOut .void then d.endFinal i true else d

/-- FINAL_REQUEST_TIMEOUT. -/
def execFinalRequestTimeout (slot : SlotNo) (s : State) : Host.Outcome State Fault Refusal :=
  s.onDevice fun d => d.running fun d => d.takeFinalTimeout slot

/-- R120: the lapse timer of a LAPSED slot runs out. -/
def Device.takeLapseExpiry (d : Device) (i : SlotNo) : Device :=
  if (d.slot i).state = .lapsed ∧ (d.slot i).lapseTimer = some 0 then d.freeSlot i else d

/-- LAPSE_TIMER_EXPIRY. -/
def execLapseTimerExpiry (slot : SlotNo) (s : State) : Host.Outcome State Fault Refusal :=
  s.onDevice fun d => d.running fun d => d.takeLapseExpiry slot

/-- R126: the lifetime of a slot in ACTIVE or RENEWING has reached 0. -/
def Device.takeHoldExpiry (d : Device) (i : SlotNo) : Device :=
  if ((d.slot i).state = .active ∨ (d.slot i).state = .renewing) ∧ (d.slot i).lifetime = 0 then d.expireSlot i else d

/-- HOLD_EXPIRY. -/
def execHoldExpiry (slot : SlotNo) (s : State) : Host.Outcome State Fault Refusal :=
  s.onDevice fun d => d.running fun d => d.takeHoldExpiry slot

/-! ### The timebase (R1) -/

/-- The ends of timers, as the table's rows have them. -/
inductive Expiry where
  | doze (st : Station)
  | idle (st : Station)
  | wait (st : Station)
  | jam (st : Station)
  | auth (i : SlotNo)
  | renew (i : SlotNo)
  | final (i : SlotNo)
  | lapse (i : SlotNo)
  | hold (i : SlotNo)
  deriving DecidableEq, Repr

/-- The ends of timers numbered, from 32 on; 0 to 31 are the slots whose renewal falls due (log 8). -/
def Expiry.number : Expiry → Nat
  | .doze st => 32 + st.val
  | .idle st => 48 + st.val
  | .wait st => 64 + st.val
  | .jam st => 80 + st.val
  | .auth i => 96 + i.val
  | .renew i => 128 + i.val
  | .final i => 160 + i.val
  | .lapse i => 192 + i.val
  | .hold i => 224 + i.val

/-- All of them. -/
def allExpiries : List Expiry :=
  allStations.flatMap (fun st => [.doze st, .idle st, .wait st, .jam st]) ++
    allSlots.flatMap fun i => [.auth i, .renew i, .final i, .lapse i, .hold i]

/-- Whether a timer stands at 0 and its end has not been taken. -/
def Device.overdue (d : Device) : Expiry → Bool
  | .doze st => (d.ctx st).state == .idle && (d.ctx st).dozeTimer == some 0
  | .idle st => (d.ctx st).state == .opened && (d.ctx st).idleTimer == some 0
  | .wait st => (d.ctx st).state == .held && (d.ctx st).waitTimer == some 0
  | .jam st => (d.ctx st).state.isJammed && (d.ctx st).jamTimer == some 0
  | .auth i => (d.slot i).timedOut .auth
  | .renew i => (d.slot i).timedOut .renew
  | .final i => (d.slot i).timedOut .capture || (d.slot i).timedOut .void
  | .lapse i => (d.slot i).state == .lapsed && (d.slot i).lapseTimer == some 0
  | .hold i => ((d.slot i).state == .active || (d.slot i).state == .renewing) && (d.slot i).lifetime == 0

/-- The end of a timer is taken. -/
def Device.takeEnd (d : Device) : Expiry → Device
  | .doze st => d.takeDozeExpiry st
  | .idle st => d.takeIdleExpiry st
  | .wait st => d.takeWaitExpiry st
  | .jam st => d.takeJamExpiry st
  | .auth i => d.takeAuthTimeout i
  | .renew i => d.takeRenewTimeout i
  | .final i => d.takeFinalTimeout i
  | .lapse i => d.takeLapseExpiry i
  | .hold i => d.takeHoldExpiry i

/-- R1, R184: a timer whose count stood at 0 through a whole second runs out; several of them in a free order (log 8). -/
def Device.takeOverdue (d : Device) : Device :=
  (sortByKey (fun e => Config.tickKey d.freeCount e.number) (allExpiries.filter d.overdue)).foldl Device.takeEnd d

/-- TIMEBASE_TICK: the timers that have stood at 0 since the tick before run out (R1, log 7), and the counts fall. -/
def execTimebaseTick (s : State) : Host.Outcome State Fault Refusal :=
  s.onDevice fun d => d.running fun d => d.takeOverdue.tick

end Sys2Proof.Machine
end

