-- ==== Sys2Proof/Machine/Reports.lean ====
section
/-! DEFINITION. The meanings of the reports of one block to another: the payment unit's to the session engine (R16, R19,
R21, R45, R46, R63, R64), a refill reaching the account table (R91), the account table's messages to a context (R41, R45,
R48, R49, R62, R63, R100) and the report queue's word that room has appeared (R147). -/

namespace Sys2Proof.Machine

/-! ### Reports of the payment unit -/

/-- The slot reference of a session's hold. -/
def Context.cardRef (c : Context) : Option SlotRef :=
  match c.session with
  | some { funding := .card ref, .. } => some ref
  | _ => none

/-- Whether a report is of a kind and for a station. -/
def PayReport.isFor (r : PayReport) (st : Station) (kind : ReportKind) : Bool := r.station == st && r.kind == kind

/-- The oldest report of a kind under way to a station is taken by `f`, with the slot reference it names (log 10). -/
def Device.takeReport (d : Device) (st : Station) (kind : ReportKind) (f : Device → SlotRef → Device) : Device :=
  match d.payReports.find? fun r => r.isFor st kind with
  | none => d
  | some r => f { d with payReports := d.payReports.eraseP fun r => r.isFor st kind } r.ref

/-- R16: whether a station is in FUNDING with a pending slot. -/
def Context.awaitsSlot (c : Context) (ref : SlotRef) : Bool := c.state == .funding ref

/-- R16: an approval reaches the session engine. -/
def Device.takeApproval (d : Device) (st : Station) (ref : SlotRef) : Device :=
  if (d.ctx st).awaitsSlot ref then (d.send st .cardAccepted).openSession st (.card ref) else d

/-- AUTH_APPROVAL_REPORT. -/
def execAuthApprovalReport (st : Station) (s : State) : Host.Outcome State Fault Refusal :=
  s.onDevice fun d => d.running fun d => d.takeReport st .approval fun d ref => d.takeApproval st ref

/-- R16: a decline or an authorization timeout reaches the session engine. -/
def Device.takeNoApproval (d : Device) (st : Station) (ref : SlotRef) (reason : CardReason) : Device :=
  if (d.ctx st).awaitsSlot ref then (d.decline st reason).enterIdle st else d

/-- AUTH_DECLINE_REPORT. -/
def execAuthDeclineReport (st : Station) (s : State) : Host.Outcome State Fault Refusal :=
  s.onDevice fun d => d.running fun d => d.takeReport st .decline fun d ref => d.takeNoApproval st ref .declined

/-- AUTH_TIMEOUT_REPORT. -/
def execAuthTimeoutReport (st : Station) (s : State) : Host.Outcome State Fault Refusal :=
  s.onDevice fun d => d.running fun d => d.takeReport st .timeout fun d ref => d.takeNoApproval st ref .timeout

/-- R19, R21, R64, R126: an expiry reaches the session engine; it is about the session whose hold it names (log 11). R126 names no
effect in FUNDING, where the hold may be the pending slot, its approval not yet taken: there the report is disregarded, and the
approval, when it is taken, opens its session on the EXPIRED slot (the model's choice, log 36). -/
def Device.takeExpiry (d : Device) (st : Station) (ref : SlotRef) : Device :=
  if (d.ctx st).cardRef = some ref then d.loseFunding st .holdExpired else d

/-- HOLD_EXPIRY_REPORT. -/
def execHoldExpiryReport (st : Station) (s : State) : Host.Outcome State Fault Refusal :=
  s.onDevice fun d => d.running fun d => d.takeReport st .expiry fun d ref => d.takeExpiry st ref

/-- Whether the job of a context has made a funds request. -/
def Context.requested (c : Context) (r : FundsRequest) : Bool :=
  match c.job with
  | some j => j.fundsRequest == r
  | none => false

/-- R48: whether a renewal's outcome is for the present job of a context. -/
def Context.awaitsRenewal (c : Context) (ref : SlotRef) : Bool := c.cardRef == some ref && c.requested .renew

/-- R45, R63: a funds renewal's approval reaches the session engine. -/
def Device.takeRenewalApproval (d : Device) (st : Station) (ref : SlotRef) : Device :=
  if (d.ctx st).awaitsRenewal ref then d.fundsArrived st else d

/-- RENEWAL_APPROVAL_REPORT. -/
def execRenewalApprovalReport (st : Station) (s : State) : Host.Outcome State Fault Refusal :=
  s.onDevice fun d => d.running fun d => d.takeReport st .renewalApproval fun d ref => d.takeRenewalApproval st ref

/-- R46, R41: the funding source has refused further funds for a job. -/
def Job.fundsRefused (j : Job) : Job := { j with fundsEnded := true, fundsRequest := .none }

/-- R46, R63: a funds renewal's refusal or timeout reaches the session engine. -/
def Device.takeRenewalRefusal (d : Device) (st : Station) (ref : SlotRef) : Device :=
  if (d.ctx st).awaitsRenewal ref then
    let d := d.modJob st Job.fundsRefused
    if (d.ctx st).state = .held ∧ d.pathEmpty st then d.finishJob st .funds else d
  else d

/-- RENEWAL_REFUSAL_REPORT. -/
def execRenewalRefusalReport (st : Station) (s : State) : Host.Outcome State Fault Refusal :=
  s.onDevice fun d => d.running fun d => d.takeReport st .renewalRefusal fun d ref => d.takeRenewalRefusal st ref

/-! ### The account table and a context -/

/-- ACCOUNT_REFILL. -/
def execAccountRefill (st : Station) (s : State) : Host.Outcome State Fault Refusal :=
  s.onDevice fun d => d.running fun d => d.takeRefill st

/-- R86: the oldest message of the account table leaves the ones under way to a context. -/
def Device.dropMail (d : Device) (st : Station) : Device :=
  d.modCtx st fun c => { c with accountMail := c.accountMail.tail }

/-- A change of a job's funds request. -/
def Job.setRequest (j : Job) (r : FundsRequest) : Job := { j with fundsRequest := r }

/-- R41: a refill's answer at a RUNNING station. GRANTED sends GO even with 8 entries (log 23). -/
def Device.refillRunning (d : Device) (st : Station) : RefillReply → Device
  | .granted draw => ((d.addDraw st draw).modJob st fun j => j.setRequest .none).sendGo st
  | .waiting => (d.modJob st fun j => j.setRequest .waiting).enterHeld st
  | .refused => (d.modJob st Job.fundsRefused).enterHeld st

/-- R62: a refill's answer at a jammed station. -/
def Device.refillJammed (d : Device) (st : Station) : RefillReply → Device
  | .granted draw => (d.addDraw st draw).modJob st fun j => j.setRequest .none
  | .waiting => (d.modJob st fun j => j.setRequest .waiting).modCtx st fun c => { c with state := .jammed .held }
  | .refused => (d.modJob st Job.fundsRefused).modCtx st fun c => { c with state := .jammed .held }

/-- R49, R23, R61: a refill's answer taken with stop pending, or in CLOSING. -/
def Device.refillQuiet (d : Device) (st : Station) (number : Nat) : RefillReply → Device
  | .granted draw => (d.addDraw st draw).modJob st fun j => j.setRequest .none
  | .waiting => (d.modJob st fun j => j.setRequest .none).leaveWaiting st number
  | .refused => d.modJob st Job.fundsRefused

/-- R48: a refill's answer for a job that has ended: a draw goes back to its account. -/
def Device.refillLate (d : Device) (st : Station) (number : Nat) : RefillReply → Device
  | .granted draw => d.handBack st number draw
  | .waiting | .refused => d

/-- R41, R49, R62: a refill's answer to the job that asked, by the station's state. -/
def Device.applyRefill (d : Device) (st : Station) (number : Nat) (answer : RefillReply) : Device :=
  match (d.ctx st).job with
  | none => d.refillLate st number answer
  | some j =>
    if j.fundsRequest ≠ .refill then d.refillLate st number answer
    else if j.stopPending then d.refillQuiet st number answer
    else match (d.ctx st).state with
      | .running => d.refillRunning st answer
      | .jammed .running => d.refillJammed st answer
      | _ => d.refillQuiet st number answer

/-- A refill's answer reaches the context, if it is the oldest message under way to it. -/
def Device.takeRefillAnswer (d : Device) (st : Station) : Device :=
  match (d.ctx st).accountMail with
  | .refill number answer :: _ => (d.dropMail st).applyRefill st number answer
  | .lateRefill number answer :: _ => (d.dropMail st).refillLate st number answer
  | _ => d

/-- REFILL_ANSWER. -/
def execRefillAnswer (st : Station) (s : State) : Host.Outcome State Fault Refusal :=
  s.onDevice fun d => d.running fun d => d.takeRefillAnswer st

/-- R45, R48, R63: a waiting-list grant reaches the context, if it is the oldest message under way to it. -/
def Device.takeGrant (d : Device) (st : Station) : Device :=
  match (d.ctx st).accountMail with
  | .grant number draw :: _ =>
    let d := d.dropMail st
    if (d.ctx st).requested .waiting then (d.addDraw st draw).fundsArrived st else d.handBack st number draw
  | _ => d

/-- WAITING_LIST_GRANT. -/
def execWaitingListGrant (st : Station) (s : State) : Host.Outcome State Fault Refusal :=
  s.onDevice fun d => d.running fun d => d.takeGrant st

/-- R100: a close report reaches the context, if it is the oldest message under way to it. -/
def Device.takeCloseReport (d : Device) (st : Station) : Device :=
  match (d.ctx st).accountMail with
  | .closed number :: _ =>
    let d := d.dropMail st
    if (d.ctx st).fundedBy number then d.loseFunding st .accountClosed else d
  | _ => d

/-- ACCOUNT_CLOSE_REPORT. -/
def execAccountCloseReport (st : Station) (s : State) : Host.Outcome State Fault Refusal :=
  s.onDevice fun d => d.running fun d => d.takeCloseReport st

/-! ### Room in the report queue -/

/-- R147, R23: a station that waits in CLOSING without a job, and has been told of room, offers its report again. -/
def Device.offerAgain (d : Device) (st : Station) : Device :=
  match (d.ctx st).endPending with
  | some reason =>
    if d.reportRoom st then ((d.placeReport st reason).closeSession st reason).enterIdle st else d
  | none => d

/-- R147: the retry of an offer. -/
def Device.takeRetry (d : Device) (st : Station) : Device :=
  if (d.ctx st).state = .closing ∧ (d.ctx st).job = none ∧ (d.ctx st).roomTold = true then
    (d.modCtx st fun c => { c with roomTold := false }).offerAgain st
  else d

/-- REPORT_OFFER_RETRY. -/
def execReportOfferRetry (st : Station) (s : State) : Host.Outcome State Fault Refusal :=
  s.onDevice fun d => d.running fun d => d.takeRetry st

end Sys2Proof.Machine
end

