-- ==== Sys2Proof/Machine/Management.lean ====
section
/-! DEFINITION. The meanings of the management requests: the taking of a request from the input queue and its reply (R173,
R178), and each of the twenty kinds by the rules of its owner (R8, R9, R13, R25, R77, R78, R80, R98 to R105, R131, R135,
R156, R180, R182 to R187, R189, R196, R197). -/

namespace Sys2Proof.Machine

/-! ### Taking a request (R173) -/

/-- What an owner answers: the part after the request, the status and the data of the reply. -/
structure Answer where
  device : Device
  status : Status
  data : ReplyData

/-- A request answered with nothing changed. -/
def Device.refuse (d : Device) (status : Status) (data : ReplyData) : Answer := { device := d, status := status, data := data }

/-- R173: the reply of a request at the tail of the reply queue. -/
def Device.reply (d : Device) (tag : Half) (status : Status) (data : ReplyData) : Device :=
  { d with mgmt := { d.mgmt with replies := d.mgmt.replies ++ [{ tag := tag, status := status, data := data }] } }

/-- R173: whether the management unit may take a request. -/
def Management.mayTake (m : Management) : Bool :=
  m.inHand.isNone && decide (m.replies.length < Config.replyCapacity) && !m.restartTaken

/-- R178, R174: a request taken, with the three checks before its owner sees it; the reply follows in the same step
(log 14). -/
def Device.answerRequest (d : Device) (r : MgmtRequest) (owner : Device → MgmtRequest → Answer) : Device :=
  match requestFault r with
  | some status => d.reply r.tag status .none
  | none =>
    let a := owner d r
    a.device.reply r.tag a.status a.data

/-- R173: the request at the head of the input queue is taken, if it is of a kind that `accepts` holds for. -/
def Device.takeRequest (d : Device) (accepts : Byte → Bool) (owner : Device → MgmtRequest → Answer) : Device :=
  match d.mgmt.input with
  | [] => d
  | r :: rest =>
    if d.mgmt.mayTake && accepts r.kind then
      { d with mgmt := { d.mgmt with input := rest } }.answerRequest r owner
    else d

/-- The meaning of a request of one kind (R206). -/
def State.onRequest (s : State) (kind : Byte) (owner : Device → MgmtRequest → Answer) : Host.Outcome State Fault Refusal :=
  s.onDevice fun d => d.running fun d => d.takeRequest (fun k => k == kind) owner

/-! ### The account table -/

/-- R105: the summary of the entry that carries a number; no data without an entry. -/
def Device.summaryData (d : Device) (number : Nat) : ReplyData :=
  match d.account number with
  | some a => .summary a.summary
  | none => .none

/-- An answer about an entry, with its summary as it stands after the request. -/
def Device.answerSummary (d : Device) (number : Nat) (status : Status) : Answer :=
  { device := d, status := status, data := d.summaryData number }

/-- The fields of an ACCOUNT_PUT (R101, R206). -/
structure AccountOrder where
  number : Nat
  pin : Half
  limit : Nat
  spent : Nat
  colour : Bool
  size : Byte

/-- The parameters of an ACCOUNT_PUT. -/
def readAccountOrder : List Byte → Option AccountOrder
  | [a, b, c, p, q, l2, l1, l0, s2, s1, s0, colour, size] =>
    some { number := (amount24 a b c).toNat, pin := half p q, limit := (amount24 l2 l1 l0).toNat
           spent := (amount24 s2 s1 s0).toNat, colour := readFlag colour, size := size }
  | _ => none

/-- R83: a new entry. -/
def AccountOrder.entry (o : AccountOrder) (size : SizeClass) : Account :=
  { number := o.number, pin := o.pin, limit := o.limit, spent := o.spent, draws := 0, state := .active
    pinFailures := 0, colourPermitted := o.colour, maxSize := size, openSessions := 0, waiting := []
    live := .zero, closedRecord := .zero }

/-- R101: an insert. -/
def Device.insertPut (d : Device) (o : AccountOrder) : Answer :=
  match readSize o.size with
  | none => d.refuse .badValue .none
  | some size =>
    if o.number = 0 ∨ o.limit < o.spent then d.refuse .badValue .none
    else if Config.accountCapacity ≤ d.accounts.length then d.refuse .full .none
    else Device.answerSummary { d with accounts := insertAccount (o.entry size) d.accounts } o.number .ok

/-- R102: an update of an entry. -/
def Device.updatePut (d : Device) (o : AccountOrder) (a : Account) : Answer :=
  if a.state = .closed then d.answerSummary o.number .closed
  else match readSize o.size with
    | none => d.answerSummary o.number .badValue
    | some size =>
      if o.limit < a.spent + a.draws then d.answerSummary o.number .badValue
      else
        let d := d.modAccount o.number fun a =>
          { a with pin := o.pin, limit := o.limit, colourPermitted := o.colour, maxSize := size }
        (d.serveIf (a.limit < o.limit) o.number).answerSummary o.number .ok

/-- R101, R102: ACCOUNT_PUT. -/
def Device.answerAccountPut (d : Device) (r : MgmtRequest) : Answer :=
  match readAccountOrder r.params with
  | none => d.refuse .badValue .none
  | some o =>
    match d.account o.number with
    | none => d.insertPut o
    | some a => d.updatePut o a

/-- ACCOUNT_PUT. -/
def execAccountPut (s : State) : Host.Outcome State Fault Refusal := s.onRequest 0x01#8 Device.answerAccountPut

/-- R104: ACCOUNT_DELETE. -/
def Device.answerAccountDelete (d : Device) (r : MgmtRequest) : Answer :=
  match d.account r.number with
  | none => d.refuse .notFound .none
  | some a =>
    if 0 < a.openSessions ∨ a.closedRecord ≠ .zero then d.refuse .inUse .none
    else { device := { d with accounts := d.accounts.filter fun a => a.number ≠ r.number }, status := .ok, data := .none }

/-- ACCOUNT_DELETE. -/
def execAccountDelete (s : State) : Host.Outcome State Fault Refusal := s.onRequest 0x02#8 Device.answerAccountDelete

/-- R105: the ENTRY part of an entry. -/
def Account.entryView (a : Account) : EntryView :=
  { number := a.number, pin := a.pin, limit := a.limit, spent := a.spent, draws := a.draws, available := a.available
    state := a.state, pinFailures := a.pinFailures, colourPermitted := a.colourPermitted, maxSize := a.maxSize
    openSessions := a.openSessions, waiting := a.waiting.map (·.station) }

/-- R105, R206: the part of an entry that a part code names. -/
def Account.part (a : Account) (code : Byte) : Option ReplyData :=
  if code = 0x00#8 then some (.entry a.entryView)
  else if code = 0x01#8 then some (.period a.number code a.live)
  else if code = 0x02#8 then some (.period a.number code a.closedRecord)
  else none

/-- R105: ACCOUNT_GET; the part code is tested before the number is looked up. -/
def Device.answerAccountGet (d : Device) (r : MgmtRequest) : Answer :=
  let code := r.params.getD 3 0#8
  if 2 < code.toNat then d.refuse .badValue .none
  else match d.account r.number with
    | none => d.refuse .notFound .none
    | some a =>
      match a.part code with
      | some data => d.refuse .ok data
      | none => d.refuse .badValue .none

/-- ACCOUNT_GET. -/
def execAccountGet (s : State) : Host.Outcome State Fault Refusal := s.onRequest 0x03#8 Device.answerAccountGet

/-- The values of an ACCOUNT_STATE (R207). -/
inductive StateOrder where
  | stop
  | start
  | close
  deriving DecidableEq, Repr

/-- The codes of the values (R207). -/
def readStateOrder (b : Byte) : Option StateOrder :=
  if b = 0x01#8 then some .stop else if b = 0x02#8 then some .start else if b = 0x03#8 then some .close else none

/-- R98: STOP. -/
def Device.stopAccount (d : Device) (a : Account) : Answer :=
  match a.state with
  | .active => (d.modAccount a.number fun a => { a with state := .stopped }).answerSummary a.number .ok
  | .stopped => d.answerSummary a.number .ok
  | .closed => d.answerSummary a.number .closed

/-- R99: START. -/
def Device.startAccount (d : Device) (a : Account) : Answer :=
  match a.state with
  | .active => (d.modAccount a.number fun a => { a with pinFailures := 0 }).answerSummary a.number .ok
  | .stopped =>
    ((d.modAccount a.number fun a => { a with state := .active, pinFailures := 0 }).serve a.number).answerSummary a.number .ok
  | .closed => d.answerSummary a.number .closed

/-- R100: CLOSE. -/
def Device.closeAccount (d : Device) (a : Account) : Answer :=
  match a.state with
  | .closed => d.answerSummary a.number .ok
  | .active | .stopped =>
    ((d.modAccount a.number fun a => { a with state := .closed, waiting := [] }).mailClosed a.number).answerSummary a.number .ok

/-- R98 to R100, R178: ACCOUNT_STATE; the value is tested before the number is looked up. -/
def Device.answerAccountState (d : Device) (r : MgmtRequest) : Answer :=
  match readStateOrder (r.params.getD 3 0#8) with
  | none => d.refuse .badValue .none
  | some order =>
    match d.account r.number with
    | none => d.refuse .notFound .none
    | some a =>
      match order with
      | .stop => d.stopAccount a
      | .start => d.startAccount a
      | .close => d.closeAccount a

/-- ACCOUNT_STATE. -/
def execAccountState (s : State) : Host.Outcome State Fault Refusal := s.onRequest 0x04#8 Device.answerAccountState

/-- R103: ACCOUNT_CREDIT. -/
def Device.answerAccountCredit (d : Device) (r : MgmtRequest) : Answer :=
  let amount := (amount24 (r.params.getD 3 0#8) (r.params.getD 4 0#8) (r.params.getD 5 0#8)).toNat
  match d.account r.number with
  | none => d.refuse .notFound .none
  | some a =>
    if a.spent < amount then d.answerSummary r.number .badValue
    else
      let d := d.modAccount r.number fun a => { a with spent := a.spent - amount }
      (d.serveIf (0 < amount) r.number).answerSummary r.number .ok

/-- ACCOUNT_CREDIT. -/
def execAccountCredit (s : State) : Host.Outcome State Fault Refusal := s.onRequest 0x05#8 Device.answerAccountCredit

/-! ### The tariff unit -/

/-- R80: the tariff state. -/
def Tariff.view (t : Tariff) : TariffView :=
  { selector := t.selector, loadedA := t.bankA.loaded, countA := t.bankA.refCount
    loadedB := t.bankB.loaded, countB := t.bankB.refCount }

/-- R80: an answer of the tariff unit carries its state whatever the status. -/
def Device.answerTariff (d : Device) (status : Status) : Answer := { device := d, status := status, data := .tariff d.tariff.view }

/-- R77: TARIFF_LOAD. -/
def Device.answerTariffLoad (d : Device) (r : MgmtRequest) : Answer :=
  match readBank (r.params.getD 0 0xFF#8) with
  | none => d.answerTariff .badValue
  | some b =>
    if 0 < (d.tariff.get b).refCount then d.answerTariff .inUse
    else Device.answerTariff
      { d with tariff := d.tariff.modBank b fun k => { k with prices := readPrices r.params.tail, loaded := true } } .ok

/-- TARIFF_LOAD. -/
def execTariffLoad (s : State) : Host.Outcome State Fault Refusal := s.onRequest 0x08#8 Device.answerTariffLoad

/-- R78: TARIFF_SELECT. -/
def Device.answerTariffSelect (d : Device) (r : MgmtRequest) : Answer :=
  match readBank (r.params.getD 0 0xFF#8) with
  | none => d.answerTariff .badValue
  | some b =>
    if (d.tariff.get b).loaded then Device.answerTariff { d with tariff := { d.tariff with selector := b } } .ok
    else d.answerTariff .badValue

/-- TARIFF_SELECT. -/
def execTariffSelect (s : State) : Host.Outcome State Fault Refusal := s.onRequest 0x09#8 Device.answerTariffSelect

/-! ### The configuration parameters -/

/-- R180: an answer about a parameter carries its value after the request. -/
def Device.answerParam (d : Device) (code : Byte) (name : ParamName) (status : Status) : Answer :=
  { device := d, status := status, data := .param code (d.mgmt.params.get name) }

/-- R180: a value for a parameter of the ten. -/
def Device.setParam (d : Device) (code : Byte) (name : ParamName) (v : Nat) : Answer :=
  if v < name.range.1 ∨ name.range.2 < v then d.answerParam code name .badValue
  else if name = .outstandingLimit ∧ v < d.outstanding then d.answerParam code name .busy
  else Device.answerParam { d with mgmt := { d.mgmt with params := d.mgmt.params.put name v } } code name .ok

/-- R180: CONFIG_SET. -/
def Device.answerConfigSet (d : Device) (r : MgmtRequest) : Answer :=
  let code := r.params.getD 0 0#8
  match readParam code with
  | none => d.refuse .badValue .none
  | some name => d.setParam code name (half (r.params.getD 1 0#8) (r.params.getD 2 0#8)).toNat

/-- CONFIG_SET. -/
def execConfigSet (s : State) : Host.Outcome State Fault Refusal := s.onRequest 0x0C#8 Device.answerConfigSet

/-- R182: the part-wide state, all parts read in one step (log 27). -/
def Device.configView (d : Device) : ConfigView :=
  { params := d.mgmt.params, tariff := d.tariff, accounts := d.accounts.length, exporting := d.exporting.view
    reports := d.reports.length, reportsOf := Vector.ofFn fun st => reportsOf st d.reports, notices := d.notices }

/-- R182: CONFIG_GET. -/
def Device.answerConfigGet (d : Device) (_r : MgmtRequest) : Answer := d.refuse .ok (.config d.configView)

/-- CONFIG_GET. -/
def execConfigGet (s : State) : Host.Outcome State Fault Refusal := s.onRequest 0x0D#8 Device.answerConfigGet

/-! ### Reading a station -/

/-- R184: the running timer of a context. -/
def Context.runningTimer (c : Context) : Option (TimerName × Nat) :=
  match c.dozeTimer, c.idleTimer, c.waitTimer, c.jamTimer with
  | some n, _, _, _ => some (.doze, n)
  | none, some n, _, _ => some (.idle, n)
  | none, none, some n, _ => some (.wait, n)
  | none, none, none, some n => some (.jam, n)
  | none, none, none, none => none

/-- R184: the STATE view. -/
def Device.stateView (d : Device) (st : Station) : StateView :=
  let c := d.ctx st
  { station := st, state := c.state, endPending := c.endPending, sessionPresent := c.session.isSome
    jobPresent := c.job.isSome, timer := c.runningTimer, faults := c.faults, carrier := (d.port st).carrier
    config := d.configs[st] }

/-- R183, R185, R186: the view that a view code names. -/
def Device.view (d : Device) (st : Station) (code : Byte) : Option ReplyData :=
  if code = 0x00#8 then some (.state (d.stateView st))
  else if code = 0x01#8 then some (.session st (d.ctx st).session)
  else if code = 0x02#8 then some (.job st (d.ctx st).job)
  else if code = 0x03#8 then some (.path st (d.path st))
  else if code = 0x04#8 then some (.meters st (d.ctx st).meters)
  else none

/-- An answer about the station a request names. -/
def Device.answerStation (d : Device) (r : MgmtRequest) (f : Station → Answer) : Answer :=
  match r.station with
  | some st => f st
  | none => d.refuse .badValue .none

/-- R183: STATION_GET. -/
def Device.answerStationGet (d : Device) (r : MgmtRequest) : Answer :=
  d.answerStation r fun st =>
    match d.view st (r.params.getD 1 0xFF#8) with
    | some data => d.refuse .ok data
    | none => d.refuse .badValue .none

/-- STATION_GET. -/
def execStationGet (s : State) : Host.Outcome State Fault Refusal := s.onRequest 0x10#8 Device.answerStationGet

/-! ### Acting on a station -/

/-- The jam policies (R207). -/
def readPolicy (b : Byte) : Option JamPolicy := if b = 0#8 then some .charge else if b = 1#8 then some .forgive else none

/-- The forward filters (R207). -/
def readFilter (b : Byte) : Option ForwardFilter := if b = 0#8 then some .pass else if b = 1#8 then some .block else none

/-- R203, R206: a wake mask; none if it names a class other than the three. -/
def readMask (b : Byte) : Option WakeMask :=
  if b.toNat < 8 then some { card := b.getLsbD 0, keyin := b.getLsbD 1, engineOther := b.getLsbD 2 } else none

/-- R156: an answer about a station's configuration record, as it stands after the request. -/
def Device.answerRecord (d : Device) (st : Station) (status : Status) : Answer :=
  { device := d, status := status, data := .stationConfig st d.configs[st] }

/-- R156: STATION_CONFIG. -/
def Device.answerStationConfig (d : Device) (r : MgmtRequest) : Answer :=
  d.answerStation r fun st =>
    match readPolicy (r.params.getD 1 0xFF#8), readFilter (r.params.getD 2 0xFF#8), readMask (r.params.getD 3 0xFF#8) with
    | some policy, some filter, some mask =>
      (d.modConfig st fun c => { c with jamPolicy := policy, forward := filter, wakeMask := mask }).answerRecord st .ok
    | _, _, _ => d.answerRecord st .badValue

/-- STATION_CONFIG. -/
def execStationConfig (s : State) : Host.Outcome State Fault Refusal := s.onRequest 0x11#8 Device.answerStationConfig

/-- R187: the answer of the four requests that act on a station. -/
def Device.answerState (d : Device) (st : Station) : Answer := { device := d, status := .ok, data := .state (d.stateView st) }

/-- R8: STATION_SERVICE off. -/
def Device.serviceOff (d : Device) (st : Station) : Device :=
  let d := d.modConfig st fun c => { c with inService := false }
  match (d.ctx st).state with
  | .offline _ => d
  | _ => (d.teardown st .outOfService).enter st (.offline .service)

/-- R8: STATION_SERVICE on. A station in OFFLINE(service) whose carrier is present enters IDLE; in any other state the state is
unchanged. -/
def Device.serviceOn (d : Device) (st : Station) : Device :=
  let d := d.modConfig st fun c => { c with inService := true }
  match (d.ctx st).state with
  | .offline .service => if (d.port st).carrier then d.enterIdle st else d
  | _ => d

/-- R8, R206: STATION_SERVICE. -/
def Device.answerStationService (d : Device) (r : MgmtRequest) : Answer :=
  d.answerStation r fun st =>
    let v := r.params.getD 1 0xFF#8
    if v = 0#8 then (d.serviceOff st).answerState st
    else if v = 1#8 then (d.serviceOn st).answerState st
    else d.refuse .badValue .none

/-- STATION_SERVICE. -/
def execStationService (s : State) : Host.Outcome State Fault Refusal := s.onRequest 0x12#8 Device.answerStationService

/-- R9: where a station goes after a reset. -/
def Device.settle (d : Device) (st : Station) : Device :=
  if (d.port st).carrier then
    if d.configs[st].inService then d.enterIdle st else d.enter st (.offline .service)
  else d.enter st (.offline .carrier)

/-- R9: STATION_RESET of a station. -/
def Device.resetStation (d : Device) (st : Station) : Device :=
  match (d.ctx st).state with
  | .doze => (d.send st .wake).settle st
  | _ => (d.teardown st .reset).settle st

/-- R9: STATION_RESET. -/
def Device.answerStationReset (d : Device) (r : MgmtRequest) : Answer :=
  d.answerStation r fun st => (d.resetStation st).answerState st

/-- STATION_RESET. -/
def execStationReset (s : State) : Host.Outcome State Fault Refusal := s.onRequest 0x13#8 Device.answerStationReset

/-- R13: STATION_WAKE of a station. -/
def Device.wakeStation (d : Device) (st : Station) : Device :=
  if (d.ctx st).state = .doze then (d.send st .wake).enterIdle st else d

/-- R13: STATION_WAKE. -/
def Device.answerStationWake (d : Device) (r : MgmtRequest) : Answer :=
  d.answerStation r fun st => (d.wakeStation st).answerState st

/-- STATION_WAKE. -/
def execStationWake (s : State) : Host.Outcome State Fault Refusal := s.onRequest 0x14#8 Device.answerStationWake

/-- R25: STATION_CLEAR. -/
def Device.answerStationClear (d : Device) (r : MgmtRequest) : Answer :=
  d.answerStation r fun st => (d.modFaults st fun _ => .clear).answerState st

/-- STATION_CLEAR. -/
def execStationClear (s : State) : Host.Outcome State Fault Refusal := s.onRequest 0x15#8 Device.answerStationClear

/-! ### The payment unit -/

/-- R131: a request as HOLD_GET shows it: its kind, whether it is OUTSTANDING, and the funds mark. -/
def Request.view (r : Request) : RequestKind × Bool × Bool := (r.kind, r.place != .queued, r.funds)

/-- R131: what HOLD_GET returns. -/
def Device.holdView (d : Device) (i : SlotNo) : HoldView :=
  let s := d.slot i
  { number := i, generation := s.generation, state := s.state, owner := s.owner, reference := s.reference
    asked := s.asked, approved := s.approved, consumed := s.consumed, provisional := s.provisional
    lifetime := s.lifetime, renewalsRefused := s.renewalsRefused, request := s.request.map Request.view
    finalWaiting := s.finalWaiting, outstanding := d.outstanding, queueLength := d.payQueue.length
    staleVoids := d.staleVoids.length }

/-- R131: HOLD_GET. -/
def Device.answerHoldGet (d : Device) (r : MgmtRequest) : Answer :=
  match readSlot (r.params.getD 0 0xFF#8) with
  | some i => d.refuse .ok (.hold (d.holdView i))
  | none => d.refuse .badValue .none

/-- HOLD_GET. -/
def execHoldGet (s : State) : Host.Outcome State Fault Refusal := s.onRequest 0x18#8 Device.answerHoldGet

/-! ### The billing period -/

/-- R135: PERIOD_CLOSE; the reply carries the export state after the request. -/
def Device.answerPeriodClose (d : Device) (_r : MgmtRequest) : Answer :=
  if d.exporting.running then d.refuse .busy (.exporting d.exporting.view)
  else { device := d.closePeriod, status := .ok, data := .exporting d.closePeriod.exporting.view }

/-- PERIOD_CLOSE. -/
def execPeriodClose (s : State) : Host.Outcome State Fault Refusal := s.onRequest 0x1C#8 Device.answerPeriodClose

/-! ### The notice unit -/

/-- The set of classes a request carries (R203, R206). -/
def MgmtRequest.classes (r : MgmtRequest) : Option (Vector Bool 12) :=
  readClasses (half (r.params.getD 0 0xFF#8) (r.params.getD 1 0xFF#8))

/-- R196, R197: an answer of the notice unit carries its state whatever the status. -/
def Device.answerNotices (d : Device) (n : Notices) (status : Status) : Answer :=
  { device := { d with notices := n }, status := status, data := .notices n }

/-- R196: NOTICE_ENABLE. -/
def Device.answerNoticeEnable (d : Device) (r : MgmtRequest) : Answer :=
  match r.classes with
  | none => d.answerNotices d.notices .badValue
  | some flags => d.answerNotices (d.notices.enable flags) .ok

/-- NOTICE_ENABLE. -/
def execNoticeEnable (s : State) : Host.Outcome State Fault Refusal := s.onRequest 0x1E#8 Device.answerNoticeEnable

/-- R197: NOTICE_CLEAR. -/
def Device.answerNoticeClear (d : Device) (r : MgmtRequest) : Answer :=
  match r.classes with
  | none => d.answerNotices d.notices .badValue
  | some named => d.answerNotices (d.notices.clearClasses named) .ok

/-- NOTICE_CLEAR. -/
def execNoticeClear (s : State) : Host.Outcome State Fault Refusal := s.onRequest 0x1F#8 Device.answerNoticeClear

/-! ### RESTART and undefined kinds -/

/-- R189: RESTART. -/
def Device.answerRestart (d : Device) (_r : MgmtRequest) : Answer :=
  { device := { d with mgmt := { d.mgmt with restartTaken := true } }, status := .ok, data := .none }

/-- RESTART. -/
def execRestart (s : State) : Host.Outcome State Fault Refusal := s.onRequest 0x7F#8 Device.answerRestart

/-- UNKNOWN_REQUEST (R178): a request whose kind is not one of the twenty is answered UNKNOWN; no owner sees it. -/
def execUnknownRequest (s : State) : Host.Outcome State Fault Refusal :=
  s.onDevice fun d => d.running fun d => d.takeRequest (fun k => (paramLength k).isNone) fun d _ => d.refuse .unknown .none

end Sys2Proof.Machine
end

