-- ==== Sys2Proof/Machine/Reset.lean ====
section
/-! DEFINITION. The meanings of the RESET input's two events (R168). -/

namespace Sys2Proof.Machine

/-- R168: a port under RESET: nothing is received or sent, and frames in transit are lost. -/
def Port.quiet (p : Port) : Port := { p with receiver := .waiting, transmitter := .idle }

/-- R168: RESET is asserted; the blocks keep what they hold until its release (log 20). -/
def Device.assertReset (d : Device) : Device :=
  { d with
    resetAsserted := true
    ports := d.ports.map Port.quiet
    uplink := { d.uplink with receiver := .waiting, transmitter := .free } }

/-- RESET_ASSERTED. -/
def execResetAsserted (s : State) : Host.Outcome State Fault Refusal := s.onDevice Device.assertReset

/-- R168: RESET is released: every block holds its power-on state and the carrier-detect inputs are read. -/
def Device.releaseReset (d : Device) : Device :=
  if d.resetAsserted then Device.powerOn d.carrierDetect d.uplinkDetect d.freeCount else d

/-- RESET_RELEASED. -/
def execResetReleased (s : State) : Host.Outcome State Fault Refusal := s.onDevice Device.releaseReset

end Sys2Proof.Machine
end

