-- ==== Sys2Proof/Machine/Frames.lean ====
section
/-! DEFINITION. The bytes of what the part sends (R203 to R207): the codes, the frames toward a station, the frames of the
uplink and the data of a REPLY, each in the envelope of R201. -/

namespace Sys2Proof.Machine

/-! ### Fields (R203) -/

/-- A field of one byte. -/
def byteOf (n : Nat) : Byte := BitVec.ofNat 8 n

/-- A flag; the part sends 1 for set. -/
def flagByte (b : Bool) : Byte := if b then 1#8 else 0#8

/-- A field of two bytes. -/
def two (n : Nat) : List Byte := halfBytes (BitVec.ofNat 16 n)

/-- An amount or an account number. -/
def three (n : Nat) : List Byte := amountBytes (BitVec.ofNat 24 n)

/-- The eight counts of a record. -/
def counts (v : Vector Count 8) : List Byte := v.toList.flatMap wordBytes

/-- A station, FF for NONE. -/
def stationByte : Option Station → Byte
  | some st => byteOf st.val
  | none => 0xFF#8

/-- A slot reference; a slot number of FF for no slot. The generation sent beside FF, which R203 does not give, is 0 (the
model's choice, log 34): so in a stale VOID (R114, R205) and for the absent pending slot of the STATE view (R184, R206). -/
def refBytes : Option SlotRef → List Byte
  | some r => [byteOf r.slot.val, r.generation]
  | none => [0xFF#8, 0#8]

/-- A gateway reference, 0 while absent. -/
def gatewayBytes (r : Option Reference) : List Byte := wordBytes (r.getD 0)

/-- A set of the twelve notice classes, bit n for class n. -/
def classBytes (v : Vector Bool 12) : List Byte :=
  halfBytes (BitVec.ofNat 16 ((List.finRange 12).map fun c => if v[c] then 2 ^ c.val else 0).sum)

/-! ### Codes (R207) -/

/-- PAUSE reasons. -/
def PauseReason.code : PauseReason → Byte
  | .funds => 0x01#8
  | .pathFull => 0x02#8

/-- DENY reasons. -/
def DenyReason.code : DenyReason → Byte
  | .noSession => 0x01#8
  | .busy => 0x02#8
  | .badJob => 0x03#8
  | .notAllowed => 0x04#8
  | .noFunds => 0x05#8
  | .noTariff => 0x06#8
  | .noAccount => 0x07#8
  | .badPin => 0x08#8
  | .stopped => 0x09#8
  | .closed => 0x0A#8
  | .outOfService => 0x0B#8

/-- CARD_DECLINED reasons. -/
def CardReason.code : CardReason → Byte
  | .declined => 0x01#8
  | .timeout => 0x02#8
  | .busy => 0x03#8
  | .noTariff => 0x04#8
  | .outOfService => 0x05#8

/-- JOB_END reasons. -/
def JobEndReason.code : JobEndReason → Byte
  | .complete => 0x01#8
  | .stopped => 0x02#8
  | .replaced => 0x03#8
  | .funds => 0x04#8
  | .abandoned => 0x05#8
  | .lost => 0x06#8

/-- Session end reasons. -/
def EndReason.code : EndReason → Byte
  | .logout => 0x01#8
  | .cardOut => 0x02#8
  | .idle => 0x03#8
  | .auto => 0x04#8
  | .fundsEnded => 0x05#8
  | .holdExpired => 0x06#8
  | .accountClosed => 0x07#8
  | .reset => 0x08#8
  | .carrier => 0x09#8
  | .outOfService => 0x0A#8

/-- Statuses. -/
def Status.code : Status → Byte
  | .ok => 0x00#8
  | .busy => 0x01#8
  | .inUse => 0x02#8
  | .notFound => 0x03#8
  | .full => 0x04#8
  | .badValue => 0x05#8
  | .closed => 0x06#8
  | .unknown => 0x07#8

/-- Station states. -/
def StationState.code : StationState → Byte
  | .offline _ => 0x00#8
  | .doze => 0x01#8
  | .idle => 0x02#8
  | .funding _ => 0x03#8
  | .opened => 0x04#8
  | .running => 0x05#8
  | .held => 0x06#8
  | .jammed _ => 0x07#8
  | .closing => 0x08#8

/-- The offline reason of a state, 00 when absent. -/
def StationState.offlineCode : StationState → Byte
  | .offline .carrier => 0x01#8
  | .offline .service => 0x02#8
  | _ => 0x00#8

/-- The resume state of a state as a station state code, FF when absent. -/
def StationState.resumeCode : StationState → Byte
  | .jammed .running => 0x05#8
  | .jammed .held => 0x06#8
  | .jammed .closing => 0x08#8
  | _ => 0xFF#8

/-- The pending slot of a state. -/
def StationState.pendingSlot : StationState → Option SlotRef
  | .funding ref => some ref
  | _ => none

/-- Slot states. -/
def SlotState.code : SlotState → Byte
  | .free => 0x00#8
  | .authorizing => 0x01#8
  | .lapsed => 0x02#8
  | .active => 0x03#8
  | .renewing => 0x04#8
  | .expired => 0x05#8
  | .capturing => 0x06#8
  | .voiding => 0x07#8

/-- Slot request kinds, without the place and the mark. -/
def RequestKind.code : RequestKind → Byte
  | .auth => 0x01#8
  | .renew => 0x02#8
  | .capture => 0x03#8
  | .void => 0x04#8

/-- A slot request kind code: plus 10 if OUTSTANDING, plus 20 if funds-marked. -/
def requestCode : Option (RequestKind × Bool × Bool) → Byte
  | none => 0x00#8
  | some (kind, outstanding, funds) =>
    kind.code + (if outstanding then 0x10#8 else 0#8) + (if funds then 0x20#8 else 0#8)

/-- Account states. -/
def AccountState.code : AccountState → Byte
  | .active => 0x00#8
  | .stopped => 0x01#8
  | .closed => 0x02#8

/-- Funds requests. -/
def FundsRequest.code : FundsRequest → Byte
  | .none => 0x00#8
  | .refill => 0x01#8
  | .waiting => 0x02#8
  | .renew => 0x03#8

/-- Banks. -/
def BankName.code : BankName → Byte
  | .bankA => 0x00#8
  | .bankB => 0x01#8

/-- Jam policies. -/
def JamPolicy.code : JamPolicy → Byte
  | .charge => 0x00#8
  | .forgive => 0x01#8

/-- Forward filters. -/
def ForwardFilter.code : ForwardFilter → Byte
  | .pass => 0x00#8
  | .block => 0x01#8

/-- Timer codes of the STATE view (R206). -/
def TimerName.code : TimerName → Byte
  | .doze => 1#8
  | .idle => 2#8
  | .wait => 3#8
  | .jam => 4#8

/-- A wake mask as a set of classes (R203). -/
def WakeMask.byte (m : WakeMask) : Byte :=
  flagByte m.card + (flagByte m.keyin <<< 1) + (flagByte m.engineOther <<< 2)

/-- The sticky faults as five bits (R206). -/
def Faults.byte (f : Faults) : Byte :=
  flagByte f.linkError + (flagByte f.protocol <<< 1) + (flagByte f.pathFull <<< 2) + (flagByte f.uplinkDrop <<< 3)
    + (flagByte f.shortfall <<< 4)

/-! ### Frames toward a station (R204) -/

/-- The endpoint, kind and payload of a frame toward a station. -/
def StationFrame.parts : StationFrame → Byte × Byte × List Byte
  | .go allowance => (endpointEngine, 0x20#8, two allowance)
  | .pause r => (endpointEngine, 0x21#8, [r.code])
  | .deny r => (endpointEngine, 0x22#8, [r.code])
  | .jobEnd r => (endpointEngine, 0x23#8, [r.code])
  | .sessionEnd r => (endpointEngine, 0x24#8, [r.code])
  | .balance amount => (endpointEngine, 0x25#8, three amount)
  | .sleep => (endpointNode, 0x30#8, [])
  | .wake => (endpointNode, 0x31#8, [])
  | .text bytes => (endpointNode, 0x32#8, bytes)
  | .cardAccepted => (endpointCard, 0x38#8, [])
  | .cardDeclined r => (endpointCard, 0x39#8, [r.code])

/-- The bytes of a frame toward a station. -/
def StationFrame.bytes (f : StationFrame) : List Byte := envelope [f.parts.1, f.parts.2.1] f.parts.2.2

/-! ### The data of a REPLY (R206) -/

/-- A configuration record as four bytes. -/
def StationConfig.bytes (c : StationConfig) : List Byte :=
  [flagByte c.inService, c.jamPolicy.code, c.forward.code, c.wakeMask.byte]

/-- An entry's summary, 18 bytes. -/
def AccountSummary.bytes (a : AccountSummary) : List Byte :=
  three a.number ++ [a.state.code] ++ three a.limit ++ three a.spent ++ three a.draws ++ three a.available
    ++ [byteOf a.openSessions, byteOf a.waitingLength]

/-- The ENTRY part, 23 bytes and one for each waiting station. -/
def EntryView.bytes (e : EntryView) : List Byte :=
  three e.number ++ halfBytes e.pin ++ three e.limit ++ three e.spent ++ three e.draws ++ three e.available
    ++ [e.state.code, byteOf e.pinFailures, flagByte e.colourPermitted, byteOf e.maxSize.val, byteOf e.openSessions,
      byteOf e.waiting.length] ++ e.waiting.map fun st => byteOf st.val

/-- A period record, 40 bytes. -/
def PeriodRecord.bytes (r : PeriodRecord) : List Byte := counts r.sides ++ wordBytes r.amount ++ wordBytes r.sessions

/-- The tariff state, 5 bytes. -/
def TariffView.bytes (t : TariffView) : List Byte :=
  [t.selector.code, flagByte t.loadedA, byteOf t.countA, flagByte t.loadedB, byteOf t.countB]

/-- The export state, 12 bytes. -/
def ExportView.bytes (e : ExportView) : List Byte :=
  halfBytes e.period ++ halfBytes e.exportedPeriod ++ [flagByte e.running] ++ three e.cursor ++ two e.billsExpected
    ++ two e.billsSent

/-- The notice state, 18 bytes. -/
def Notices.bytes (n : Notices) : List Byte :=
  [flagByte n.master, flagByte n.waiting] ++ classBytes n.pending ++ classBytes n.enabled
    ++ n.lastStation.toList.map stationByte

/-- The parameters in CONFIG_GET, 15 bytes. -/
def Params.bytes (p : Params) : List Byte :=
  two p.drawSize ++ two p.cardHold ++ two p.renewalIncrement ++ two p.renewalMargin
    ++ [byteOf p.authTimeout, byteOf p.outstandingLimit] ++ two p.idleTime
    ++ [byteOf p.dozeTime, byteOf p.jamTime, byteOf p.pinFailureLimit]

/-- A bank in CONFIG_GET, 18 bytes. -/
def Bank.bytes (b : Bank) : List Byte :=
  [flagByte b.loaded, byteOf b.refCount] ++ b.prices.toList.flatMap halfBytes

/-- The reports of the stations, two stations to a byte, the lower-numbered in the high half. -/
def pairCounts : List Nat → List Byte
  | a :: b :: rest => byteOf (16 * a + b) :: pairCounts rest
  | _ => []

/-- The data of CONFIG_GET, 93 bytes. -/
def ConfigView.bytes (c : ConfigView) : List Byte :=
  c.params.bytes ++ [c.tariff.selector.code] ++ c.tariff.bankA.bytes ++ c.tariff.bankB.bytes
    ++ two c.accounts ++ halfBytes c.exporting.period ++ [flagByte c.exporting.running]
    ++ halfBytes c.exporting.exportedPeriod ++ three c.exporting.cursor ++ two c.exporting.billsExpected
    ++ two c.exporting.billsSent
    ++ [byteOf c.reports] ++ pairCounts c.reportsOf.toList ++ c.notices.bytes

/-- The STATE view. -/
def StateView.bytes (v : StateView) : List Byte :=
  [byteOf v.station.val, v.state.code, v.state.offlineCode, v.state.resumeCode, flagByte v.endPending.isSome,
    (match v.endPending with
      | some r => r.code
      | none => 0#8)]
    ++ refBytes v.state.pendingSlot ++ [flagByte v.sessionPresent, flagByte v.jobPresent]
    ++ (match v.timer with
      | some (t, n) => t.code :: two n
      | none => 0#8 :: two 0)
    ++ [v.faults.byte, flagByte v.carrier] ++ v.config.bytes

/-- Funding kind and identity in the SESSION view: an account number, or a slot reference in the low two bytes. -/
def Funding.bytes : Funding → List Byte
  | .account n => 0x01#8 :: 0#8 :: three n
  | .card ref => 0x02#8 :: 0#8 :: 0#8 :: refBytes (some ref)

/-- The session record in the SESSION view, 66 bytes. -/
def Session.bytes (s : Session) : List Byte :=
  s.funding.bytes ++ [s.bank.code] ++ counts s.committedSides ++ wordBytes s.amountCommitted ++ wordBytes s.jobs
    ++ wordBytes s.spoiled ++ wordBytes s.forgiven ++ wordBytes s.untracked ++ wordBytes s.shortfallSides
    ++ wordBytes s.shortfallAmount

/-- The job record in the JOB view, 44 bytes. -/
def Job.bytes (j : Job) : List Byte :=
  two j.sheetsPerSet ++ two j.sets ++ [byteOf j.sides, byteOf j.size.val, byteOf j.colour.number, flagByte j.lastJob]
    ++ two j.inner ++ two j.outer ++ wordBytes j.fed ++ wordBytes j.delivered ++ wordBytes j.spoiled
    ++ wordBytes j.forgiven ++ wordBytes j.surplus ++ wordBytes j.untracked ++ [flagByte j.stopPending]
    ++ two j.allowance ++ three (j.draw.getD 0) ++ [j.fundsRequest.code, flagByte j.fundsEnded]

/-- The attribute byte of a path entry. -/
def PathEntry.attributes (e : PathEntry) : Byte :=
  (flagByte (e.sides == 2) <<< 7) + (byteOf e.size.val <<< 5) + (byteOf e.colour.number <<< 4)
    + (flagByte (!e.funded) <<< 3) + (flagByte e.surplus <<< 2)
    + (match e.mark with
      | none => 0#8
      | some .named => 1#8
      | some .missing => 2#8)

/-- A path entry, 9 bytes. -/
def PathEntry.bytes (e : PathEntry) : List Byte :=
  halfBytes e.ordinal ++ three e.price ++ three e.provisional ++ [e.attributes]

/-- The meters, 44 bytes. -/
def Meters.bytes (m : Meters) : List Byte :=
  counts m.deliveredSides ++ wordBytes m.spoiledSheets ++ wordBytes m.jams ++ wordBytes m.jobsCompleted

/-- The final request waiting: 00 none, 03 CAPTURE, 04 VOID, and its amount. -/
def finalBytes : Option FinalRequest → List Byte
  | none => 0x00#8 :: three 0
  | some (.capture n) => 0x03#8 :: three n
  | some .void => 0x04#8 :: three 0

/-- What HOLD_GET returns, 31 bytes. -/
def HoldView.bytes (h : HoldView) : List Byte :=
  [byteOf h.number.val, h.generation, h.state.code, stationByte h.owner] ++ gatewayBytes h.reference
    ++ three (h.asked.getD 0) ++ three h.approved ++ three h.consumed ++ three h.provisional ++ two h.lifetime
    ++ [flagByte h.renewalsRefused, requestCode h.request] ++ finalBytes h.finalWaiting
    ++ [byteOf h.outstanding, byteOf h.queueLength, byteOf h.staleVoids]

/-- The data of a REPLY. -/
def ReplyData.bytes : ReplyData → List Byte
  | .none => []
  | .summary a => a.bytes
  | .entry e => e.bytes
  | .period number part record => three number ++ [part] ++ record.bytes
  | .tariff t => t.bytes
  | .param code value => code :: two value
  | .exporting e => e.bytes
  | .notices n => n.bytes
  | .config c => c.bytes
  | .state v => v.bytes
  | .session st Option.none => [byteOf st.val, 0#8]
  | .session st (some s) => [byteOf st.val, 1#8] ++ s.bytes
  | .job st Option.none => [byteOf st.val, 0#8]
  | .job st (some j) => [byteOf st.val, 1#8] ++ j.bytes
  | .path st entries => [byteOf st.val, byteOf entries.length] ++ entries.flatMap PathEntry.bytes
  | .meters st m => byteOf st.val :: m.bytes
  | .stationConfig st c => byteOf st.val :: c.bytes
  | .hold h => h.bytes

/-! ### Frames of the uplink (R205) -/

/-- Funding kind and identity in a SESSION_REPORT: an account number, or a gateway reference. -/
def ReportFunding.bytes : ReportFunding → List Byte
  | .account n => 0x01#8 :: 0#8 :: three n
  | .card reference => 0x02#8 :: gatewayBytes reference

/-- A session report, 68 bytes. -/
def Report.bytes (r : Report) : List Byte :=
  [byteOf r.station.val] ++ r.funding.bytes ++ [r.bank.code] ++ counts r.committedSides ++ wordBytes r.amountCommitted
    ++ wordBytes r.jobs ++ wordBytes r.spoiled ++ wordBytes r.forgiven ++ wordBytes r.untracked
    ++ wordBytes r.shortfallSides ++ wordBytes r.shortfallAmount ++ [r.endReason.code]

/-- The kind code and payload of an uplink frame. -/
def UplinkFrame.parts : UplinkFrame → Byte × List Byte
  | .authReq ref st token amount => (0x40#8, refBytes (some ref) ++ [stationByte st] ++ token ++ three amount)
  | .renewReq ref gateway amount => (0x41#8, refBytes (some ref) ++ gatewayBytes gateway ++ three amount)
  | .capture ref gateway amount => (0x42#8, refBytes (some ref) ++ gatewayBytes gateway ++ three amount)
  | .void ref gateway => (0x43#8, refBytes ref ++ gatewayBytes gateway)
  | .sessionReport r => (0x48#8, r.bytes)
  | .bill period number record => (0x49#8, halfBytes period ++ three number ++ record.bytes)
  | .exportEnd period sent => (0x4A#8, halfBytes period ++ two sent)
  | .notice live lead last =>
    (0x4C#8, classBytes live ++ [(match lead with
      | some c => byteOf c.val
      | none => 0xFF#8)] ++ last.toList.map stationByte)
  | .reply r => (0x4E#8, halfBytes r.tag ++ [r.status.code] ++ r.data.bytes)
  | .serviceUp st payload => (0x4F#8, byteOf st.val :: payload)

/-- The bytes of an uplink frame. -/
def UplinkFrame.bytes (f : UplinkFrame) : List Byte := envelope [f.parts.1] f.parts.2

end Sys2Proof.Machine
end

