-- ==== Sys2Proof/Machine/Dispatch.lean ====
section
/-! DEFINITION. From a command to its meaning, one arm for each row of the table. -/

namespace Sys2Proof.Machine

/-- The meaning of a command; the queue of commands is left as it is. -/
def exec (i : Instr) (s : State) : Host.Outcome State Fault Refusal :=
  match i with
  | .start st sheetsPerSet sets sides size colour lastJob => Sys2Proof.Machine.execStart st sheetsPerSet sets sides size colour lastJob s
  | .feed st ordinal size colour => Sys2Proof.Machine.execFeed st ordinal size colour s
  | .exit st ordinal => Sys2Proof.Machine.execExit st ordinal s
  | .jam st ordinals => Sys2Proof.Machine.execJam st ordinals s
  | .clear st items => Sys2Proof.Machine.execClear st items s
  | .stop st => Sys2Proof.Machine.execStop st s
  | .keyin st account pin => Sys2Proof.Machine.execKeyin st account pin s
  | .logout st => Sys2Proof.Machine.execLogout st s
  | .service st payload => Sys2Proof.Machine.execService st payload s
  | .card st token => Sys2Proof.Machine.execCard st token s
  | .cardOut st => Sys2Proof.Machine.execCardOut st s
  | .stationBadFrame st => Sys2Proof.Machine.execStationBadFrame st s
  | .stationUnroutedFrame st endpoint kind => Sys2Proof.Machine.execStationUnroutedFrame st endpoint kind s
  | .stationCarrierLoss st => Sys2Proof.Machine.execStationCarrierLoss st s
  | .stationCarrierReturn st => Sys2Proof.Machine.execStationCarrierReturn st s
  | .stationTransmitStart st => Sys2Proof.Machine.execStationTransmitStart st s
  | .stationFrameSent st => Sys2Proof.Machine.execStationFrameSent st s
  | .dozeTimerExpiry st => Sys2Proof.Machine.execDozeTimerExpiry st s
  | .idleTimerExpiry st => Sys2Proof.Machine.execIdleTimerExpiry st s
  | .waitTimerExpiry st => Sys2Proof.Machine.execWaitTimerExpiry st s
  | .jamTimerExpiry st => Sys2Proof.Machine.execJamTimerExpiry st s
  | .authResult slot generation approved lifetime reference => Sys2Proof.Machine.execAuthResult slot generation approved lifetime reference s
  | .renewResult slot generation approved lifetime => Sys2Proof.Machine.execRenewResult slot generation approved lifetime s
  | .captureDone slot generation outcome => Sys2Proof.Machine.execCaptureDone slot generation outcome s
  | .voidDone slot generation => Sys2Proof.Machine.execVoidDone slot generation s
  | .textDown station text => Sys2Proof.Machine.execTextDown station text s
  | .mgmt tag kind params => Sys2Proof.Machine.execMgmt tag kind params s
  | .uplinkBadFrame => Sys2Proof.Machine.execUplinkBadFrame s
  | .uplinkUnroutedFrame kind => Sys2Proof.Machine.execUplinkUnroutedFrame kind s
  | .uplinkCarrierLoss => Sys2Proof.Machine.execUplinkCarrierLoss s
  | .uplinkCarrierReturn => Sys2Proof.Machine.execUplinkCarrierReturn s
  | .arbiterChoice => Sys2Proof.Machine.execArbiterChoice s
  | .uplinkFrameSent => Sys2Proof.Machine.execUplinkFrameSent s
  | .authTimeout slot => Sys2Proof.Machine.execAuthTimeout slot s
  | .renewTimeout slot => Sys2Proof.Machine.execRenewTimeout slot s
  | .finalRequestTimeout slot => Sys2Proof.Machine.execFinalRequestTimeout slot s
  | .lapseTimerExpiry slot => Sys2Proof.Machine.execLapseTimerExpiry slot s
  | .timebaseTick => Sys2Proof.Machine.execTimebaseTick s
  | .holdExpiry slot => Sys2Proof.Machine.execHoldExpiry slot s
  | .authApprovalReport st => Sys2Proof.Machine.execAuthApprovalReport st s
  | .authDeclineReport st => Sys2Proof.Machine.execAuthDeclineReport st s
  | .authTimeoutReport st => Sys2Proof.Machine.execAuthTimeoutReport st s
  | .holdExpiryReport st => Sys2Proof.Machine.execHoldExpiryReport st s
  | .renewalApprovalReport st => Sys2Proof.Machine.execRenewalApprovalReport st s
  | .renewalRefusalReport st => Sys2Proof.Machine.execRenewalRefusalReport st s
  | .accountRefill st => Sys2Proof.Machine.execAccountRefill st s
  | .refillAnswer st => Sys2Proof.Machine.execRefillAnswer st s
  | .waitingListGrant st => Sys2Proof.Machine.execWaitingListGrant st s
  | .accountCloseReport st => Sys2Proof.Machine.execAccountCloseReport st s
  | .reportOfferRetry st => Sys2Proof.Machine.execReportOfferRetry st s
  | .accountPut => Sys2Proof.Machine.execAccountPut s
  | .accountDelete => Sys2Proof.Machine.execAccountDelete s
  | .accountGet => Sys2Proof.Machine.execAccountGet s
  | .accountState => Sys2Proof.Machine.execAccountState s
  | .accountCredit => Sys2Proof.Machine.execAccountCredit s
  | .tariffLoad => Sys2Proof.Machine.execTariffLoad s
  | .tariffSelect => Sys2Proof.Machine.execTariffSelect s
  | .configSet => Sys2Proof.Machine.execConfigSet s
  | .configGet => Sys2Proof.Machine.execConfigGet s
  | .stationGet => Sys2Proof.Machine.execStationGet s
  | .stationConfig => Sys2Proof.Machine.execStationConfig s
  | .stationService => Sys2Proof.Machine.execStationService s
  | .stationReset => Sys2Proof.Machine.execStationReset s
  | .stationWake => Sys2Proof.Machine.execStationWake s
  | .stationClear => Sys2Proof.Machine.execStationClear s
  | .holdGet => Sys2Proof.Machine.execHoldGet s
  | .periodClose => Sys2Proof.Machine.execPeriodClose s
  | .noticeEnable => Sys2Proof.Machine.execNoticeEnable s
  | .noticeClear => Sys2Proof.Machine.execNoticeClear s
  | .restart => Sys2Proof.Machine.execRestart s
  | .unknownRequest => Sys2Proof.Machine.execUnknownRequest s
  | .resetAsserted => Sys2Proof.Machine.execResetAsserted s
  | .resetReleased => Sys2Proof.Machine.execResetReleased s
  | .stationStartDelimiter st => Sys2Proof.Machine.execStationStartDelimiter st s
  | .uplinkStartDelimiter => Sys2Proof.Machine.execUplinkStartDelimiter s

end Sys2Proof.Machine
end

