-- ==== Sys2Proof/Safety.lean ====
section
/-! DEFINITION. What is true of the part in every state it reaches: the sizes of its queues and lists, the half-duplex law of
a station line, the law of the notice-waiting flag. And the words in which statements say what a command leaves alone. -/

namespace Sys2Proof.Machine

/-! ### Laws of a state -/

/-- R151, R153: the line of a station port is half-duplex, and a port without a carrier neither sends nor holds frames. -/
structure Port.LineSound (p : Port) : Prop where
  /-- A receiver takes a frame only with the carrier PRESENT and the transmitter IDLE. -/
  hears : p.receiver = .receiving → p.carrier = true ∧ p.transmitter = .idle
  /-- A port whose carrier is ABSENT has empty queues and an IDLE transmitter. -/
  silent : p.carrier = false → p.ownQueue = [] ∧ p.textQueue = [] ∧ p.transmitter = .idle

/-- R151, R153 for all sixteen ports. -/
def Device.LinesSound (d : Device) : Prop := ∀ st, (d.port st).LineSound

/-- R150, R154, R161: the queues of a port within their sizes. -/
structure Port.Fits (p : Port) : Prop where
  own : p.ownQueue.length ≤ Config.ownQueueCapacity
  text : p.textQueue.length ≤ Config.textQueueCapacity

/-- R52, R82, R114, R145, R150, R159, R171: every queue and list of the part within its size. -/
structure Device.WithinCapacity (d : Device) : Prop where
  ports : ∀ st, (d.port st).Fits
  paths : ∀ st, (d.path st).length ≤ Config.pathCapacity
  serviceUp : d.serviceUp.length ≤ Config.serviceUpCapacity
  reports : d.reports.length ≤ Config.reportCapacity
  reportsOf : ∀ st, reportsOf st d.reports ≤ Config.reportsPerStation
  staleVoids : d.staleVoids.length ≤ Config.staleVoidCapacity
  input : d.mgmt.input.length ≤ Config.inputCapacity
  replies : d.mgmt.replies.length ≤ Config.replyCapacity
  accounts : d.accounts.length ≤ Config.accountCapacity

/-- R194: while the notice-waiting flag is set, the live set is not empty. -/
def Notices.Lawful (n : Notices) : Prop := n.waiting = true → n.anyLive = true

/-- R92: no station appears twice on an account's waiting list. -/
def Device.WaitersApart (d : Device) : Prop := ∀ a ∈ d.accounts, (a.waiting.map (·.station)).Nodup

/-- The three laws together. -/
structure Device.Safe (d : Device) : Prop where
  lines : d.LinesSound
  capacity : d.WithinCapacity
  notices : d.notices.Lawful

/-! ### The words of the statements -/

/-- A state with its part replaced, the queue of commands as it was. -/
def State.lift (s : State) (d : Device) : State := { s with toDevice := d }

/-- The part is not under RESET (R168). -/
abbrev Device.Works (d : Device) : Prop := d.resetAsserted = false

/-- The part takes a station's frame: it works, the frame's start delimiter has been taken, the carrier is PRESENT and the
transmitter IDLE (R151, R152, R201). -/
abbrev Device.Hears (d : Device) (st : Station) : Prop :=
  d.Works ∧ (d.port st).receiver = .receiving ∧ (d.port st).carrier = true ∧ (d.port st).transmitter = .idle

/-- The part takes an uplink frame: it works, the frame's start delimiter has been taken and the uplink carrier is PRESENT
(R162, R201). -/
abbrev Device.HearsUplink (d : Device) : Prop := d.Works ∧ d.uplink.receiver = .receiving ∧ d.uplink.carrier = true

/-- The part when a station frame has been received: the receiver waits again (R151). The frame's effect starts from here, and
after it the transmitter begins a frame if one is queued (`Device.transmit`). -/
def Device.heard (d : Device) (st : Station) : Device := d.modPort st Port.endReception

/-- The part after an uplink frame has been received (R162). -/
def Device.heardUplink (d : Device) : Device := { d with uplink := { d.uplink with receiver := .waiting } }

/-- The part after a good frame of a station that is not in DOZE has been received and presented: in IDLE the doze timer
restarts (R11), in OPEN the idle timer (R18). -/
def Device.awake (d : Device) (st : Station) : Device :=
  match (d.ctx st).state with
  | .idle => (d.heard st).modCtx st fun c => { c with dozeTimer := d.mgmt.params.dozeStart }
  | .opened => (d.heard st).modCtx st fun c => { c with idleTimer := some d.mgmt.params.idleTime }
  | _ => d.heard st

/-- R48: a refill's answer under way belongs to the job that asked; when that job ends, the answer is marked. -/
def Device.outlived (d : Device) (st : Station) : Device :=
  d.modCtx st fun c => { c with accountMail := c.accountMail.map fun m => match m with
    | .refill number answer => .lateRefill number answer
    | m => m }

/-- A report of a station finds room in the report queue (R145). -/
abbrev Device.HasRoom (d : Device) (st : Station) : Prop :=
  d.reports.length < Config.reportCapacity ∧ reportsOf st d.reports < Config.reportsPerStation

/-- The final request of a session's slot, with the state the slot enters (R127). -/
def Slot.finalized (s : Slot) : Slot :=
  { s with state := (finalRequest s.consumed).slotState
           request := some { kind := (finalRequest s.consumed).kind, place := .queued, funds := false
                             amount := (finalRequest s.consumed).amount } }

/-- What a session's report says of it (R143). -/
def Session.report (s : Session) (d : Device) (st : Station) (r : EndReason) : Report :=
  { station := st
    funding := match s.funding with
      | .account n => .account n
      | .card ref => .card (d.slot ref.slot).reference
    bank := s.bank, committedSides := s.committedSides, amountCommitted := s.amountCommitted, jobs := s.jobs
    spoiled := s.spoiled, forgiven := s.forgiven, untracked := s.untracked
    shortfallSides := s.shortfallSides, shortfallAmount := s.shortfallAmount, endReason := r }

/-- What closing a session with its report accepted leaves (R24, R143, R145): `d` is the part when the session ends, `t` the
part afterwards, `s` the session record, `r` the end reason. -/
structure Device.SessionClosed (d t : Device) (st : Station) (s : Session) (r : EndReason) : Prop where
  /-- The report is at the tail of the report queue. -/
  report : t.reports = d.reports ++ [s.report d st r]
  /-- The station is IDLE with its doze timer started and nothing of the session left. -/
  state : (t.ctx st).state = .idle
  session : (t.ctx st).session = none
  job : (t.ctx st).job = none
  endPending : (t.ctx st).endPending = none
  doze : (t.ctx st).dozeTimer = if d.mgmt.params.dozeTime = 0 then none else some (d.mgmt.params.dozeTime * 60)
  timers : (t.ctx st).idleTimer = none ∧ (t.ctx st).waitTimer = none ∧ (t.ctx st).jamTimer = none
  /-- The faults and meters stay. -/
  faults : (t.ctx st).faults = (d.ctx st).faults ∧ (t.ctx st).meters = (d.ctx st).meters
  /-- END is sent. -/
  port : t.port st = (d.send st (.sessionEnd r)).port st
  /-- The bank is released. -/
  tariff : t.tariff = d.tariff.modBank s.bank fun b => { b with refCount := b.refCount - 1 }
  /-- An account session without a job is no longer counted and its station waits no more. -/
  account : ∀ n a, s.funding = .account n → (d.ctx st).job = none → (d.ctx st).refillAsked = none → d.account n = some a →
    t.account n = some { a with openSessions := a.openSessions - 1, waiting := a.waiting.filter fun w => w.station ≠ st }
  /-- A card session's hold is captured or voided. -/
  card : ∀ ref, s.funding = .card ref → (d.slot ref.slot).state = .active ∨ (d.slot ref.slot).state = .expired →
    t.slot ref.slot = (d.slot ref.slot).finalized ∧
    t.payQueue = d.payQueue ++ [{ ref := d.slotRef ref.slot, kind := (finalRequest (d.slot ref.slot).consumed).kind }]
  /-- Nothing else is touched. -/
  others : ∀ x, x ≠ st → t.path x = d.path x ∧ t.port x = d.port x
  path : t.path st = d.path st
  rest : t.exporting = d.exporting ∧ t.serviceUp = d.serviceUp ∧ t.uplink = d.uplink ∧ t.staleVoids = d.staleVoids ∧
    t.payReports = d.payReports ∧ t.outstanding = d.outstanding ∧ t.mgmt = d.mgmt ∧ t.configs = d.configs ∧
    t.carrierDetect = d.carrierDetect ∧ t.uplinkDetect = d.uplinkDetect ∧ t.resetAsserted = d.resetAsserted

/-- What the payment unit does with a slot that the session engine hands back as abandoned (R119): `d` is the part before, `t`
afterwards. A slot taken again since, or LAPSED or FREE, is left alone; an AUTH is withdrawn or abandoned and the slot is LAPSED;
an approved slot is voided (R127), and so is one that has EXPIRED (the model's reading, log 35). -/
structure Device.SlotAbandoned (d t : Device) (ref : SlotRef) : Prop where
  left : (d.slot ref.slot).generation ≠ ref.generation ∨ (d.slot ref.slot).state = .lapsed ∨ (d.slot ref.slot).state = .free →
    t.slots = d.slots ∧ t.payQueue = d.payQueue ∧ t.outstanding = d.outstanding
  withdrawn : ∀ f a, (d.slot ref.slot).generation = ref.generation → (d.slot ref.slot).state = .authorizing →
    (d.slot ref.slot).request = some { kind := .auth, place := .queued, funds := f, amount := a } →
    t.slot ref.slot = { d.slot ref.slot with
      state := .lapsed, request := none, token := none, lapseTimer := some (4 * d.mgmt.params.authTimeout) } ∧
    t.payQueue = d.payQueue.filter (fun e => e.ref.slot ≠ ref.slot) ∧ t.outstanding = d.outstanding
  abandoned : ∀ n f a, (d.slot ref.slot).generation = ref.generation → (d.slot ref.slot).state = .authorizing →
    (d.slot ref.slot).request = some { kind := .auth, place := .outstanding n, funds := f, amount := a } →
    t.slot ref.slot = { d.slot ref.slot with
      state := .lapsed, request := none, token := none, lapseTimer := some (4 * d.mgmt.params.authTimeout) } ∧
    t.payQueue = d.payQueue ∧ t.outstanding = d.outstanding - 1
  voided : (d.slot ref.slot).generation = ref.generation →
    (d.slot ref.slot).state = .active ∨ (d.slot ref.slot).state = .expired →
    t.slot ref.slot = { d.slot ref.slot with
      state := .voiding, request := some { kind := .void, place := .queued, funds := false, amount := 0 } } ∧
    t.payQueue = d.payQueue ++ [{ ref := ref, kind := .void }] ∧ t.outstanding = d.outstanding
  renewalWithdrawn : ∀ f a, (d.slot ref.slot).generation = ref.generation → (d.slot ref.slot).state = .renewing →
    (d.slot ref.slot).request = some { kind := .renew, place := .queued, funds := f, amount := a } →
    t.slot ref.slot = { d.slot ref.slot with
      state := .voiding, request := some { kind := .void, place := .queued, funds := false, amount := 0 } } ∧
    t.payQueue = d.payQueue.filter (fun e => e.ref.slot ≠ ref.slot) ++ [{ ref := ref, kind := .void }] ∧
    t.outstanding = d.outstanding
  renewalAwaited : ∀ n f a, (d.slot ref.slot).generation = ref.generation → (d.slot ref.slot).state = .renewing →
    (d.slot ref.slot).request = some { kind := .renew, place := .outstanding n, funds := f, amount := a } →
    t.slot ref.slot = { d.slot ref.slot with state := .voiding, finalWaiting := some .void } ∧
    t.payQueue = d.payQueue ∧ t.outstanding = d.outstanding
  others : ∀ x, x ≠ ref.slot → t.slot x = d.slot x
  rest : t.staleVoids = d.staleVoids ∧ t.payReports = d.payReports

/-- R167: a held frame still stands: a payment frame of a slot while its request is still OUTSTANDING under the same slot
reference, every other frame always. -/
def Device.FrameStillStands (d : Device) (f : UplinkFrame) : Prop :=
  let outstanding := fun (ref : SlotRef) (k : RequestKind) => (d.slot ref.slot).generation = ref.generation ∧
    ∃ n m a, (d.slot ref.slot).request = some { kind := k, place := .outstanding n, funds := m, amount := a }
  match f with
  | .authReq ref .. => outstanding ref .auth
  | .renewReq ref .. => outstanding ref .renew
  | .capture ref .. => outstanding ref .capture
  | .void (some ref) _ => outstanding ref .void
  | .void none _ | .sessionReport _ | .bill .. | .exportEnd .. | .notice .. | .reply _ | .serviceUp .. => True

/-! ### The service of a waiting list (R93) -/

/-- R93: what the service of a waiting list grants and what it leaves, from an available amount, list and draw size. Each head
whose price is covered is granted the lesser of the draw step and the amount; the first that is not ends the service. -/
def Serves (drawSize : Nat) : Nat → List WaitItem → List (Station × Nat) → List WaitItem → Prop
  | _, [], grants, left => grants = [] ∧ left = []
  | available, w :: rest, grants, left =>
    (available < w.oneSheetPrice ∧ grants = [] ∧ left = w :: rest) ∨
    (w.oneSheetPrice ≤ available ∧ ∃ more, grants = (w.station, min (max drawSize w.oneSheetPrice) available) :: more ∧
      Serves drawSize (available - min (max drawSize w.oneSheetPrice) available) rest more left)

/-- R93: account `n`, which stands as `a` in `d`, stands as `b` in `t` after its waiting list has been served if `due`: an OPEN
account whose available amount has risen is served, any other is left as it is. The grants are on their way to the stations
served, in the order of the list, and no other account has changed. -/
structure Device.ListServed (d t : Device) (n : Nat) (a b : Account) (due : Prop) : Prop where
  entry : t.account n = some b
  others : ∀ m, m ≠ n → t.account m = d.account m
  served : ∃ grants,
    (due ∧ a.state = .active → Serves d.mgmt.params.drawSize (a.limit - a.spent - a.draws) a.waiting grants b.waiting) ∧
    (¬ (due ∧ a.state = .active) → grants = [] ∧ b.waiting = a.waiting) ∧
    b = { a with draws := a.draws + (grants.map (·.2)).sum, waiting := b.waiting } ∧
    ∀ x, (t.ctx x).accountMail = (d.ctx x).accountMail ++
      (grants.filter fun g => g.1 = x).map fun g => AccountMail.grant n g.2

/-- R50, R94: what the end of a job of account `n`'s session at a station leaves at the account, which stood as `a`: the station
is off the waiting list, the rest of the job's draw is returned, and if it was above 0 the list is served; `b` is the account
afterwards. A refill's answer that is still under way now belongs to a job that has ended (R48). -/
def Device.DrawReturned (d t : Device) (st : Station) (n : Nat) (a b : Account) (draw : Nat) : Prop :=
  (d.outlived st).ListServed t n { a with
    waiting := a.waiting.filter fun w => w.station ≠ st, draws := a.draws - draw } b (0 < draw)

/-! ### Management -/

/-- The management unit takes the request `r` at the head of its input queue, `rest` behind it (R173). -/
structure Device.Takes (d : Device) (r : MgmtRequest) (rest : List MgmtRequest) : Prop where
  works : d.Works
  input : d.mgmt.input = r :: rest
  inHand : d.mgmt.inHand = none
  room : d.mgmt.replies.length < Config.replyCapacity
  open_ : d.mgmt.restartTaken = false

/-- The part when a request has been taken from the input queue (R173). -/
def Device.taken (d : Device) (rest : List MgmtRequest) : Device := { d with mgmt := { d.mgmt with input := rest } }

/-! ### The timebase (R1) -/

/-- The command of the end of a timer. -/
def Expiry.command : Expiry → Instr
  | .doze st => .dozeTimerExpiry st
  | .idle st => .idleTimerExpiry st
  | .wait st => .waitTimerExpiry st
  | .jam st => .jamTimerExpiry st
  | .auth i => .authTimeout i
  | .renew i => .renewTimeout i
  | .final i => .finalRequestTimeout i
  | .lapse i => .lapseTimerExpiry i
  | .hold i => .holdExpiry i

/-- A slot's request of a kind is OUTSTANDING and its timer stands at 0 (R111). -/
def Slot.StandsAtZero (s : Slot) (k : RequestKind) : Prop :=
  ∃ f a, s.request = some { kind := k, place := .outstanding 0, funds := f, amount := a }

/-- A timer stands at 0: its count is over and its end has not been taken (R1, R11, R18, R47, R58, R111, R118, R126). -/
def Device.StandsAtZero (d : Device) : Expiry → Prop
  | .doze st => (d.ctx st).state = .idle ∧ (d.ctx st).dozeTimer = some 0
  | .idle st => (d.ctx st).state = .opened ∧ (d.ctx st).idleTimer = some 0
  | .wait st => (d.ctx st).state = .held ∧ (d.ctx st).waitTimer = some 0
  | .jam st => (∃ r, (d.ctx st).state = .jammed r) ∧ (d.ctx st).jamTimer = some 0
  | .auth i => (d.slot i).StandsAtZero .auth
  | .renew i => (d.slot i).StandsAtZero .renew
  | .final i => (d.slot i).StandsAtZero .capture ∨ (d.slot i).StandsAtZero .void
  | .lapse i => (d.slot i).state = .lapsed ∧ (d.slot i).lapseTimer = some 0
  | .hold i => ((d.slot i).state = .active ∨ (d.slot i).state = .renewing) ∧ (d.slot i).lifetime = 0

/-- Some commands, run one after the other, take the part `d` to `t`. -/
def Device.Runs (d : Device) : List Instr → Device → Prop
  | [], t => t = d
  | c :: rest, t => ∃ x : Device, exec c ⟨d, []⟩ = .next ⟨x, []⟩ ∧ x.Runs rest t

/-- R121: a slot whose lifetime renewal falls due at a second. -/
def Device.FallsDue (d : Device) (i : SlotNo) : Prop :=
  (d.slot i).state = .active ∧ (d.slot i).renewalsRefused = false ∧ (d.slot i).request = none ∧
    0 < (d.slot i).lifetime ∧ (d.slot i).lifetime - 1 ≤ d.mgmt.params.renewalMargin

/-- R1, R121: the part `d` counts down one second to `t`. -/
structure Device.SecondPassed (d t : Device) : Prop where
  /-- The running timers of the contexts fall by 1. -/
  contexts : ∀ st, t.ctx st = { d.ctx st with
    dozeTimer := (d.ctx st).dozeTimer.map (· - 1), idleTimer := (d.ctx st).idleTimer.map (· - 1)
    waitTimer := (d.ctx st).waitTimer.map (· - 1), jamTimer := (d.ctx st).jamTimer.map (· - 1) }
  /-- A slot's request timer and lapse timer fall by 1, its lifetime in ACTIVE and RENEWING alone. -/
  slots : ∀ i, ¬ d.FallsDue i → t.slot i = { d.slot i with
    lifetime := if (d.slot i).state = .active ∨ (d.slot i).state = .renewing then (d.slot i).lifetime - 1 else (d.slot i).lifetime
    request := (d.slot i).request.map fun r => { r with place := match r.place with
      | .queued => .queued
      | .outstanding n => .outstanding (n - 1) }
    lapseTimer := (d.slot i).lapseTimer.map (· - 1) }
  /-- A slot whose renewal falls due enters RENEWING with an unmarked RENEW queued. -/
  due : ∀ i, d.FallsDue i → t.slot i = { d.slot i with
    state := .renewing, lifetime := (d.slot i).lifetime - 1
    request := some { kind := .renew, place := .queued, funds := false, amount := 0 }
    lapseTimer := (d.slot i).lapseTimer.map (· - 1) }
  /-- Each such slot joins the payment request queue once, behind what was queued; in which order is free (log 8). -/
  queue : ∃ joined : List SlotNo, joined.Nodup ∧ (∀ i, i ∈ joined ↔ d.FallsDue i) ∧
    t.payQueue = d.payQueue ++ joined.map fun i => { ref := { slot := i, generation := (d.slot i).generation }, kind := .renew }
  /-- Nothing else is touched. -/
  rest : t.paths = d.paths ∧ t.ports = d.ports ∧ t.outstanding = d.outstanding ∧ t.staleVoids = d.staleVoids ∧
    t.payReports = d.payReports ∧ t.notices = d.notices ∧ t.mgmt = d.mgmt ∧ t.tariff = d.tariff ∧ t.configs = d.configs ∧
    t.accounts = d.accounts ∧ t.exporting = d.exporting ∧ t.uplink = d.uplink ∧ t.reports = d.reports ∧
    t.serviceUp = d.serviceUp ∧ t.carrierDetect = d.carrierDetect ∧ t.uplinkDetect = d.uplinkDetect

/-! ### What is as it was -/

/-- The contexts, paths and ports of the other stations are as they were. -/
def Device.OthersSame (d t : Device) (st : Station) : Prop :=
  ∀ x, x ≠ st → t.ctx x = d.ctx x ∧ t.path x = d.path x ∧ t.port x = d.port x

/-- The other stations are as they were, but for messages of the account table toward them. -/
def Device.OthersSameButMail (d t : Device) (st : Station) : Prop :=
  ∀ x, x ≠ st → t.ctx x = { d.ctx x with accountMail := (t.ctx x).accountMail } ∧ t.path x = d.path x ∧ t.port x = d.port x

/-- The payment unit is as it was, but for slot `i`. -/
def Device.OtherSlotsSame (d t : Device) (i : SlotNo) : Prop := ∀ x, x ≠ i → t.slot x = d.slot x

/-- The payment unit is as it was. -/
def Device.PaymentsSame (d t : Device) : Prop :=
  t.slots = d.slots ∧ t.payQueue = d.payQueue ∧ t.outstanding = d.outstanding ∧ t.staleVoids = d.staleVoids ∧
    t.payReports = d.payReports

/-- The account table and the export are as they were. -/
def Device.BooksSame (d t : Device) : Prop := t.accounts = d.accounts ∧ t.exporting = d.exporting

/-- The pins, the RESET input, the configuration records, the management unit and the model's own counter are as they
were. -/
def Device.SetupSame (d t : Device) : Prop :=
  t.carrierDetect = d.carrierDetect ∧ t.uplinkDetect = d.uplinkDetect ∧ t.resetAsserted = d.resetAsserted ∧
    t.configs = d.configs ∧ t.mgmt = d.mgmt ∧ t.freeCount = d.freeCount

/-- The uplink port, the report queue and the SERVICE_UP queue are as they were. -/
def Device.UplinkSame (d t : Device) : Prop :=
  t.uplink = d.uplink ∧ t.reports = d.reports ∧ t.serviceUp = d.serviceUp

end Sys2Proof.Machine

namespace Sys2Proof
open Machine

/-- R12: the station and the wake class of a routed station frame. -/
def Instr.wakeClass : Instr → Option (Station × WakeClass)
  | .start st .. => some (st, .engineOther)
  | .feed st .. => some (st, .engineOther)
  | .exit st .. => some (st, .engineOther)
  | .jam st .. => some (st, .engineOther)
  | .clear st .. => some (st, .engineOther)
  | .stop st => some (st, .engineOther)
  | .logout st => some (st, .engineOther)
  | .service st .. => some (st, .engineOther)
  | .keyin st .. => some (st, .keyin)
  | .card st .. => some (st, .card)
  | .cardOut st => some (st, .card)
  | _ => none

/-- The station of a station frame, routed, bad or not routed. -/
def Instr.frameOf : Instr → Option Station
  | .stationBadFrame st => some st
  | .stationUnroutedFrame st .. => some st
  | i => i.wakeClass.map (·.1)

/-- Whether a command is an uplink frame, routed, bad or not routed. -/
def Instr.onUplink : Instr → Bool
  | .authResult .. | .renewResult .. | .captureDone .. | .voidDone .. | .textDown .. | .mgmt .. | .uplinkBadFrame
  | .uplinkUnroutedFrame _ => true
  | _ => false

end Sys2Proof
end

