-- ==== Sys2Proof/Certificates/Slice0/Obligations.lean ====
section
/-! DEFINITION. The statements for the provers. In each, `d` is the part, `q` the rest of the queue of commands; the words
`heard`, `awake`, `Hears`, `Takes`, `SessionClosed` and the others are those of Safety.lean. -/

section
open Sys2Proof Sys2Proof.Machine

/-! ### The machine -/

/-- One step runs the command at the front of the queue on the part with the rest of the queue. -/
def Obligations.StepRunsFrontCommand : Prop :=
  ∀ (c : Instr) (d : Device) (q : List Instr), step ⟨d, c :: q⟩ = exec c ⟨d, q⟩

/-- With nothing in the queue the part idles (the model's choice, log 2); every command takes a next state and leaves the rest of
the queue as it is (the model's form, log 1). -/
def Obligations.QueueIsKeptByEveryCommand : Prop :=
  (∀ d : Device, step ⟨d, []⟩ = .next ⟨d, []⟩) ∧
  (∀ (c : Instr) (d : Device) (q : List Instr), ∃ t : Device, exec c ⟨d, q⟩ = .next ⟨t, q⟩)

/-- The release of RESET leaves every block at its power-on values; each carrier-detect input is read. -/
def Obligations.ReleaseOfResetLeavesPowerOnValues : Prop :=
  ∀ (d : Device) (q : List Instr), d.resetAsserted = true →
    ∃ t : Device, exec .resetReleased ⟨d, q⟩ = .next ⟨t, q⟩ ∧ t.resetAsserted = false ∧
      (∀ st : Station,
        (t.ctx st).state = (if d.carrierDetect[st] then .idle else .offline .carrier) ∧
        (t.ctx st).dozeTimer = (if d.carrierDetect[st] then some 1200 else none) ∧
        (t.ctx st).session = none ∧ (t.ctx st).job = none ∧ (t.ctx st).endPending = none ∧
        (t.ctx st).idleTimer = none ∧ (t.ctx st).waitTimer = none ∧ (t.ctx st).jamTimer = none ∧
        (t.ctx st).faults = .clear ∧ (t.ctx st).meters = .zero ∧ t.path st = [] ∧
        t.port st = { carrier := d.carrierDetect[st], receiver := .waiting, ownQueue := [], textQueue := [], transmitter := .idle } ∧
        t.configs[st] = .defaults) ∧
      t.uplink = { carrier := d.uplinkDetect, receiver := .waiting, transmitter := .free } ∧
      t.tariff = { bankA := .empty, bankB := .empty, selector := .bankA } ∧
      t.accounts = [] ∧ t.exporting.period = 0 ∧ t.exporting.running = false ∧ t.exporting.exportedPeriod = 0 ∧
      t.exporting.cursor = 0 ∧ t.exporting.billsExpected = 0 ∧ t.exporting.billsSent = 0 ∧ t.exporting.frame = none ∧
      (∀ i, t.slot i = Slot.freed 0) ∧ t.payQueue = [] ∧ t.outstanding = 0 ∧ t.staleVoids = [] ∧
      t.reports = [] ∧ t.serviceUp = [] ∧
      t.mgmt = { input := [], inHand := none, replies := [], restartTaken := false, params := .defaults } ∧
      (∀ c : Fin 12, t.notices.pending[c] = false ∧ t.notices.enabled[c] = false ∧ t.notices.lastStation[c] = none) ∧
      t.notices.master = false ∧ t.notices.waiting = false ∧
      t.carrierDetect = d.carrierDetect ∧ t.uplinkDetect = d.uplinkDetect

/-- RESET asserted stops every port; while it is asserted, a command that is not a change of an input changes nothing. -/
def Obligations.ResetSilencesThePart : Prop :=
  (∀ (d : Device) (q : List Instr),
    ∃ t : Device, exec .resetAsserted ⟨d, q⟩ = .next ⟨t, q⟩ ∧ t.resetAsserted = true ∧
      (∀ st, (t.port st).receiver = .waiting ∧ (t.port st).transmitter = .idle) ∧
      t.uplink.receiver = .waiting ∧ t.uplink.transmitter = .free ∧
      t.carrierDetect = d.carrierDetect ∧ t.uplinkDetect = d.uplinkDetect) ∧
  (∀ (c : Instr) (d : Device) (q : List Instr), d.resetAsserted = true →
    (∀ st, c ≠ .stationCarrierLoss st ∧ c ≠ .stationCarrierReturn st) →
    c ≠ .uplinkCarrierLoss → c ≠ .uplinkCarrierReturn → c ≠ .resetAsserted → c ≠ .resetReleased →
    exec c ⟨d, q⟩ = .next ⟨d, q⟩)

/-! ### The words of the other statements -/

/-- R150, R153, R154: a frame produced for a station joins its own-frame queue; with the carrier ABSENT it is lost; with 16
queued it is discarded with the LINK notice and nothing else changes. -/
def Obligations.FramesJoinTheOwnQueue : Prop :=
  ∀ (d : Device) (st : Station) (f : StationFrame),
    ((d.port st).carrier = false → d.send st f = d) ∧
    ((d.port st).carrier = true → (d.port st).ownQueue.length < 16 →
      d.send st f = d.modPort st fun p => { p with ownQueue := p.ownQueue ++ [f] }) ∧
    ((d.port st).carrier = true → 16 ≤ (d.port st).ownQueue.length → d.send st f = d.notice .link (some st))

/-- R193: what an occurrence of a class does. -/
def Obligations.OccurrenceSetsPendingClass : Prop :=
  ∀ (d : Device) (c : NoticeClass) (x : Option Station),
    let n := d.notices
    let m := (d.notice c x).notices
    m.lastStation[c.index] = x ∧ m.pending[c.index] = true ∧
    m.waiting = (n.waiting || (!n.pending[c.index] && n.enabled[c.index] && n.master)) ∧
    m.enabled = n.enabled ∧ m.master = n.master ∧
    (∀ k : Fin 12, k ≠ c.index → m.pending[k] = n.pending[k] ∧ m.lastStation[k] = n.lastStation[k]) ∧
    d.notice c x = { d with notices := m }

/-! ### Station lines (R150 to R154, R157, R158, R162, R163) -/

/-- R151, R162: a start delimiter is taken with the carrier PRESENT, at a station port only while the transmitter is IDLE. R151, R152,
R201: the bytes of a frame whose delimiter was not taken are passed over: they change nothing. A port's transmitter that is IDLE,
with a WAITING receiver, takes the head of the own-frame queue, of the text queue if that one is empty, and nothing otherwise
(`Device.transmit`, which also follows the effect of every received station frame); after the last byte of a frame the next one
begins at once in the same way, and the transmitter is IDLE when both queues are empty. -/
def Obligations.StationLineIsHalfDuplex : Prop :=
  ((∀ (d : Device) (q : List Instr) (st : Station), d.Works → (d.port st).carrier = true → (d.port st).transmitter = .idle →
    exec (.stationStartDelimiter st) ⟨d, q⟩ = .next ⟨d.modPort st fun p => { p with receiver := .receiving }, q⟩) ∧
  (∀ (d : Device) (q : List Instr) (st : Station), ((d.port st).carrier = false ∨ (d.port st).transmitter ≠ .idle) →
    exec (.stationStartDelimiter st) ⟨d, q⟩ = .next ⟨d, q⟩) ∧
  (∀ (d : Device) (q : List Instr), d.Works → d.uplink.carrier = true →
    exec .uplinkStartDelimiter ⟨d, q⟩ = .next ⟨{ d with uplink := { d.uplink with receiver := .receiving } }, q⟩) ∧
  (∀ (d : Device) (q : List Instr), d.uplink.carrier = false → exec .uplinkStartDelimiter ⟨d, q⟩ = .next ⟨d, q⟩)) ∧
  ((∀ (d : Device) (q : List Instr) (st : Station) (c : Instr), c.frameOf = some st → (d.port st).receiver = .waiting →
    exec c ⟨d, q⟩ = .next ⟨d, q⟩) ∧
  (∀ (d : Device) (q : List Instr) (c : Instr), c.onUplink = true → d.uplink.receiver = .waiting →
    exec c ⟨d, q⟩ = .next ⟨d, q⟩)) ∧
  (∀ (d : Device) (q : List Instr) (st : Station), d.Works →
    exec (.stationTransmitStart st) ⟨d, q⟩ = .next ⟨d.transmit st, q⟩ ∧
    ((d.port st).transmitter = .idle → (d.port st).receiver = .waiting →
      (∀ f rest, (d.port st).ownQueue = f :: rest →
        exec (.stationTransmitStart st) ⟨d, q⟩ =
          .next ⟨d.modPort st fun p => { p with ownQueue := rest, transmitter := .sending f }, q⟩) ∧
      (∀ t rest, (d.port st).ownQueue = [] → (d.port st).textQueue = t :: rest →
        exec (.stationTransmitStart st) ⟨d, q⟩ =
          .next ⟨d.modPort st fun p => { p with textQueue := rest, transmitter := .sending (.text t) }, q⟩) ∧
      ((d.port st).ownQueue = [] → (d.port st).textQueue = [] →
        exec (.stationTransmitStart st) ⟨d, q⟩ = .next ⟨d, q⟩)) ∧
    ((d.port st).transmitter ≠ .idle ∨ (d.port st).receiver = .receiving →
      exec (.stationTransmitStart st) ⟨d, q⟩ = .next ⟨d, q⟩)) ∧
  (∀ (d : Device) (q : List Instr) (st : Station) (g : StationFrame), d.Works → (d.port st).transmitter = .sending g →
    (∀ f rest, (d.port st).ownQueue = f :: rest →
      exec (.stationFrameSent st) ⟨d, q⟩ =
        .next ⟨d.modPort st fun p => { p with ownQueue := rest, transmitter := .sending f }, q⟩) ∧
    (∀ t rest, (d.port st).ownQueue = [] → (d.port st).textQueue = t :: rest →
      exec (.stationFrameSent st) ⟨d, q⟩ =
        .next ⟨d.modPort st fun p => { p with textQueue := rest, transmitter := .sending (.text t) }, q⟩) ∧
    ((d.port st).ownQueue = [] → (d.port st).textQueue = [] →
      exec (.stationFrameSent st) ⟨d, q⟩ = .next ⟨d.modPort st fun p => { p with transmitter := .idle }, q⟩))

/-- R6, R7, R153: a station without a session or authorization loses its carrier; the carrier returns. -/
def Obligations.IdleStationFollowsItsCarrier : Prop :=
  (∀ (d : Device) (q : List Instr) (st : Station), d.Works → (d.port st).carrier = true →
    let lost := ({ d with carrierDetect := d.carrierDetect.set st false }.modPort st fun _ =>
      { carrier := false, receiver := .waiting, ownQueue := [], textQueue := [], transmitter := .idle }).notice .carrier (some st)
    ((d.ctx st).state = .idle ∨ (d.ctx st).state = .doze →
      exec (.stationCarrierLoss st) ⟨d, q⟩ = .next ⟨lost.enter st (.offline .carrier), q⟩) ∧
    (∀ r, (d.ctx st).state = .offline r → exec (.stationCarrierLoss st) ⟨d, q⟩ = .next ⟨lost, q⟩)) ∧
  (∀ (d : Device) (q : List Instr) (st : Station), d.Works → (d.port st).carrier = false →
    let back := ({ d with carrierDetect := d.carrierDetect.set st true }.modPort st fun p =>
      { p with carrier := true }).notice .carrier (some st)
    ((d.ctx st).state = .offline .carrier → d.configs[st].inService = true →
      exec (.stationCarrierReturn st) ⟨d, q⟩ =
        .next ⟨(back.enter st .idle).modCtx st fun c => { c with dozeTimer := d.mgmt.params.dozeStart }, q⟩) ∧
    ((d.ctx st).state = .offline .carrier → d.configs[st].inService = false →
      exec (.stationCarrierReturn st) ⟨d, q⟩ = .next ⟨back.enter st (.offline .service), q⟩) ∧
    ((d.ctx st).state ≠ .offline .carrier → exec (.stationCarrierReturn st) ⟨d, q⟩ = .next ⟨back, q⟩))

/-- R6, R10, R71, R153: a station with a session loses its carrier: nothing of the session, the job or the path is left, no
frame is queued, and the station is OFFLINE(carrier). -/
def Obligations.CarrierLossTearsSessionDown : Prop :=
  ∀ (d : Device) (q : List Instr) (st : Station), d.Works → (d.port st).carrier = true →
    (d.ctx st).state ∈ [StationState.opened, .running, .held, .closing, .jammed .running, .jammed .held, .jammed .closing] →
    ∃ t : Device, exec (.stationCarrierLoss st) ⟨d, q⟩ = .next ⟨t, q⟩ ∧
      (t.ctx st).state = .offline .carrier ∧ (t.ctx st).session = none ∧ (t.ctx st).job = none ∧
      (t.ctx st).endPending = none ∧ (t.ctx st).dozeTimer = none ∧ (t.ctx st).idleTimer = none ∧
      (t.ctx st).waitTimer = none ∧ (t.ctx st).jamTimer = none ∧ t.path st = [] ∧
      t.port st = { carrier := false, receiver := .waiting, ownQueue := [], textQueue := [], transmitter := .idle } ∧
      (∀ x, x ≠ st → t.path x = d.path x ∧ t.port x = d.port x) ∧
      t.configs = d.configs ∧ t.mgmt = d.mgmt ∧ t.uplink = d.uplink ∧ t.exporting = d.exporting

/-- R152, R162: a bad frame is discarded: LINK_ERROR and LINK with the station, LINK with none for the uplink. R158, R163: a frame
that the classifier does not route is a PROTOCOL fault, with no sticky fault for the uplink. -/
def Obligations.FaultyFramesAreReported : Prop :=
  ((∀ (d : Device) (q : List Instr) (st : Station), d.Hears st →
    exec (.stationBadFrame st) ⟨d, q⟩ =
      .next ⟨(((d.heard st).modFaults st fun f => { f with linkError := true }).notice .link (some st)).transmit st, q⟩) ∧
  (∀ (d : Device) (q : List Instr), d.HearsUplink →
    exec .uplinkBadFrame ⟨d, q⟩ = .next ⟨d.heardUplink.notice .link none, q⟩)) ∧
  ((∀ (d : Device) (q : List Instr) (st : Station) (endpoint kind : Byte), d.Hears st → (d.ctx st).state ≠ .doze →
    routedPair endpoint kind = false →
    exec (.stationUnroutedFrame st endpoint kind) ⟨d, q⟩ =
      .next ⟨(((d.awake st).modFaults st fun f => { f with protocol := true }).notice .protocol (some st)).transmit st, q⟩) ∧
  (∀ (d : Device) (q : List Instr) (kind : Byte), d.HearsUplink → routedUplinkKind kind = false →
    exec (.uplinkUnroutedFrame kind) ⟨d, q⟩ = .next ⟨d.heardUplink.notice .protocol none, q⟩))

/-- R11: the doze timer of an IDLE station runs out: SLEEP is sent and it is in DOZE. R12, R157: there a frame whose class is not in
the wake mask is discarded with TOUCH, and one without a wake class is a PROTOCOL fault. R12, R32: a frame whose class is in the
mask wakes the station and is then taken as in IDLE: STOP, LOGOUT and CARD_OUT are ignored, a START is refused NO_SESSION. -/
def Obligations.StationDozesAndWakes : Prop :=
  (∀ (d : Device) (q : List Instr) (st : Station), d.Works → (d.ctx st).state = .idle → (d.ctx st).dozeTimer = some 0 →
    exec (.dozeTimerExpiry st) ⟨d, q⟩ = .next ⟨(d.send st .sleep).enter st .doze, q⟩) ∧
  ((∀ (d : Device) (q : List Instr) (st : Station) (i : Instr) (w : WakeClass), d.Hears st → (d.ctx st).state = .doze →
    i.wf = true → i.wakeClass = some (st, w) → d.configs[st].wakeMask.holds w = false →
    exec i ⟨d, q⟩ = .next ⟨((d.heard st).notice .touch (some st)).transmit st, q⟩) ∧
  (∀ (d : Device) (q : List Instr) (st : Station) (endpoint kind : Byte), d.Hears st → (d.ctx st).state = .doze →
    endpoint ≠ endpointEngine → endpoint ≠ endpointCard →
    exec (.stationUnroutedFrame st endpoint kind) ⟨d, q⟩ =
      .next ⟨(((d.heard st).modFaults st fun f => { f with protocol := true }).notice .protocol (some st)).transmit st, q⟩)) ∧
  (∀ (d : Device) (q : List Instr) (st : Station), d.Hears st → (d.ctx st).state = .doze →
    let woken := (((d.heard st).send st .wake).enter st .idle).modCtx st fun c => { c with dozeTimer := d.mgmt.params.dozeStart }
    (d.configs[st].wakeMask.engineOther = true →
      exec (.stop st) ⟨d, q⟩ = .next ⟨woken.transmit st, q⟩ ∧ exec (.logout st) ⟨d, q⟩ = .next ⟨woken.transmit st, q⟩ ∧
      ∀ n k sides size colour last, exec (.start st n k sides size colour last) ⟨d, q⟩ =
        .next ⟨(woken.send st (.deny .noSession)).transmit st, q⟩) ∧
    (d.configs[st].wakeMask.card = true → exec (.cardOut st) ⟨d, q⟩ = .next ⟨woken.transmit st, q⟩))

/-- R1, R11, R18, R47, R58, R111, R118, R126, R184: at a second of the timebase every timer that has stood at 0 since the second
before runs out, each as its own command has it, once; in which order is free (log 8). R1, R121: then the counts fall by one. -/
def Obligations.TickLowersTimersAndLifetimes : Prop :=
  ∀ (d : Device) (q : List Instr), d.Works →
    ∃ (order : List Expiry) (x t : Device), order.Nodup ∧ (∀ e, e ∈ order ↔ d.StandsAtZero e) ∧
      d.Runs (order.map Expiry.command) x ∧ exec .timebaseTick ⟨d, q⟩ = .next ⟨t, q⟩ ∧ x.SecondPassed t

/-! ### Sessions (R14 to R24, R159, R172) -/

/-- R18, R19, R22, R24: a session of an OPEN station ends by LOGOUT, by CARD_OUT in a card session, or when the idle timer runs out:
with room for its report it is closed; without room the station waits in CLOSING with the reason in end pending. R23, R145, R147:
such a station, told that room has appeared, offers its report again: with room its session is closed with the recorded reason,
otherwise it keeps waiting. -/
def Obligations.SessionsWithoutJobEnd : Prop :=
  (∀ (d : Device) (q : List Instr) (st : Station) (s : Session), (d.ctx st).state = .opened → (d.ctx st).session = some s →
    (d.Hears st → d.HasRoom st →
      ∃ t : Device, exec (.logout st) ⟨d, q⟩ = .next ⟨t.transmit st, q⟩ ∧ (d.awake st).SessionClosed t st s .logout) ∧
    (d.Hears st → d.HasRoom st → (d.ctx st).cardSession = true →
      ∃ t : Device, exec (.cardOut st) ⟨d, q⟩ = .next ⟨t.transmit st, q⟩ ∧ (d.awake st).SessionClosed t st s .cardOut) ∧
    (d.Works → (d.ctx st).idleTimer = some 0 → d.HasRoom st →
      ∃ t : Device, exec (.idleTimerExpiry st) ⟨d, q⟩ = .next ⟨t, q⟩ ∧ d.SessionClosed t st s .idle) ∧
    (d.Hears st → ¬ d.HasRoom st →
      exec (.logout st) ⟨d, q⟩ =
        .next ⟨(((d.awake st).enter st .closing).modCtx st fun c => { c with endPending := some .logout }).transmit st, q⟩) ∧
    (d.Works → (d.ctx st).idleTimer = some 0 → ¬ d.HasRoom st →
      exec (.idleTimerExpiry st) ⟨d, q⟩ =
        .next ⟨(d.enter st .closing).modCtx st fun c => { c with endPending := some .idle }, q⟩)) ∧
  (∀ (d : Device) (q : List Instr) (st : Station) (s : Session) (r : EndReason), d.Works →
    (d.ctx st).state = .closing → (d.ctx st).job = none → (d.ctx st).roomTold = true → (d.ctx st).session = some s →
    (d.ctx st).endPending = some r → r ≠ .carrier →
    let told := d.modCtx st fun c => { c with roomTold := false }
    (d.HasRoom st → ∃ t : Device, exec (.reportOfferRetry st) ⟨d, q⟩ = .next ⟨t, q⟩ ∧ told.SessionClosed t st s r) ∧
    (¬ d.HasRoom st → exec (.reportOfferRetry st) ⟨d, q⟩ = .next ⟨told, q⟩))

/-- R19, R20, R16, R38, R5: while a job runs, LOGOUT, and CARD_OUT in a card session, set end pending, and keep a reason that is
recorded already; a CARD_OUT in an account session, and both frames where no session can end, change nothing further. -/
def Obligations.EndPendingIsMarked : Prop :=
  ∀ (d : Device) (q : List Instr) (st : Station), d.Hears st →
    ((d.ctx st).state ∈ [StationState.running, .held, .jammed .running, .jammed .held, .jammed .closing] →
      exec (.logout st) ⟨d, q⟩ =
        .next ⟨((d.heard st).modCtx st fun c => { c with endPending := some (c.endPending.getD .logout) }).transmit st, q⟩ ∧
      ((d.ctx st).cardSession = true →
        exec (.cardOut st) ⟨d, q⟩ =
          .next ⟨((d.heard st).modCtx st fun c => { c with endPending := some (c.endPending.getD .cardOut) }).transmit st, q⟩) ∧
      ((d.ctx st).cardSession = false → exec (.cardOut st) ⟨d, q⟩ = .next ⟨(d.heard st).transmit st, q⟩)) ∧
    ((d.ctx st).state ∈ [StationState.closing, .offline .service, .idle] →
      exec (.logout st) ⟨d, q⟩ = .next ⟨(d.awake st).transmit st, q⟩ ∧
      exec (.cardOut st) ⟨d, q⟩ = .next ⟨(d.awake st).transmit st, q⟩) ∧
    (∀ ref, (d.ctx st).state = .funding ref → exec (.logout st) ⟨d, q⟩ = .next ⟨(d.heard st).transmit st, q⟩) ∧
    ((d.ctx st).state = .opened → (d.ctx st).cardSession = false →
      exec (.cardOut st) ⟨d, q⟩ = .next ⟨(d.awake st).transmit st, q⟩)

/-- R16, R119: a CARD_OUT in FUNDING hands the pending slot back: an AUTH still queued is withdrawn, one outstanding is
abandoned, and the slot is LAPSED with its lapse timer started; a slot approved meanwhile is voided (R127; so is one that has
expired, the model's reading, log 35); a slot taken again since, or LAPSED or FREE, is left alone. The station is IDLE. -/
def Obligations.CardOutAbandonsAuthorization : Prop :=
  ∀ (d : Device) (q : List Instr) (st : Station) (ref : SlotRef), d.Hears st → (d.ctx st).state = .funding ref →
    ∃ t : Device, exec (.cardOut st) ⟨d, q⟩ = .next ⟨t.transmit st, q⟩ ∧
      t.ctx st = { d.ctx st with state := .idle, idleTimer := none, waitTimer := none, jamTimer := none
                                 dozeTimer := d.mgmt.params.dozeStart } ∧
      t.port st = (d.heard st).port st ∧ d.SlotAbandoned t ref ∧ d.OthersSame t st ∧ d.BooksSame t ∧ d.SetupSame t ∧
      d.UplinkSame t ∧ t.notices = d.notices ∧ t.tariff = d.tariff

/-- R14, R17, R75, R87, R89: a KEYIN in IDLE that passes the checks opens an account session. R5, R14, R16, R19, R38, R74, R87, R88:
the refusals of a KEYIN; only BAD_PIN changes the table: the failure count rises, and at the limit the account is STOPPED and the
notice set. -/
def Obligations.KeyinOpensSessionOrIsRefused : Prop :=
  (∀ (d : Device) (q : List Instr) (st : Station) (number : Amount24) (pin : Half) (a : Account), d.Hears st →
    (d.ctx st).state = .idle → (d.tariff.get d.tariff.selector).loaded = true → number ≠ 0 →
    d.account number.toNat = some a → a.state = .active → a.pin = 0 ∨ a.pin = pin →
    ∃ t : Device, exec (.keyin st number pin) ⟨d, q⟩ = .next ⟨t.transmit st, q⟩ ∧
      t.account number.toNat = some { a with
        pinFailures := 0, openSessions := a.openSessions + 1, live := { a.live with sessions := a.live.sessions + 1 } } ∧
      (∀ m, m ≠ number.toNat → t.account m = d.account m) ∧
      t.ctx st = { d.ctx st with
        state := .opened, dozeTimer := none, idleTimer := some d.mgmt.params.idleTime, waitTimer := none, jamTimer := none
        session := some {
          funding := .account number.toNat, bank := d.tariff.selector, committedSides := Vector.replicate 8 0
          amountCommitted := 0, jobs := 0, spoiled := 0, forgiven := 0, untracked := 0
          shortfallSides := 0, shortfallAmount := 0 } } ∧
      t.tariff = d.tariff.modBank d.tariff.selector (fun b => { b with refCount := b.refCount + 1 }) ∧
      t.port st = ((d.heard st).send st (.balance (a.limit - a.spent - a.draws))).port st ∧ t.path st = d.path st ∧
      d.OthersSame t st ∧ d.PaymentsSame t ∧ d.SetupSame t ∧ d.UplinkSame t ∧ t.exporting = d.exporting) ∧
  (∀ (d : Device) (q : List Instr) (st : Station) (number : Amount24) (pin : Half), d.Hears st →
    ((d.ctx st).state = .idle →
      ((d.tariff.get d.tariff.selector).loaded = false →
        exec (.keyin st number pin) ⟨d, q⟩ = .next ⟨((d.awake st).send st (.deny .noTariff)).transmit st, q⟩) ∧
      ((d.tariff.get d.tariff.selector).loaded = true →
        (number = 0 ∨ d.account number.toNat = none →
          exec (.keyin st number pin) ⟨d, q⟩ = .next ⟨((d.awake st).send st (.deny .noAccount)).transmit st, q⟩) ∧
        (∀ a, number ≠ 0 → d.account number.toNat = some a →
          (a.state = .closed →
            exec (.keyin st number pin) ⟨d, q⟩ = .next ⟨((d.awake st).send st (.deny .closed)).transmit st, q⟩) ∧
          (a.state = .stopped →
            exec (.keyin st number pin) ⟨d, q⟩ = .next ⟨((d.awake st).send st (.deny .stopped)).transmit st, q⟩) ∧
          (a.state = .active → a.pin ≠ 0 → a.pin ≠ pin → a.pinFailures + 1 < d.mgmt.params.pinFailureLimit →
            ∃ t : Device, exec (.keyin st number pin) ⟨d, q⟩ = .next ⟨(t.send st (.deny .badPin)).transmit st, q⟩ ∧
              t = { d.awake st with accounts := t.accounts } ∧
              t.account number.toNat = some { a with pinFailures := a.pinFailures + 1 } ∧
              ∀ m, m ≠ number.toNat → t.account m = d.account m) ∧
          (a.state = .active → a.pin ≠ 0 → a.pin ≠ pin → d.mgmt.params.pinFailureLimit ≤ a.pinFailures + 1 →
            ∃ t : Device,
              exec (.keyin st number pin) ⟨d, q⟩ =
                .next ⟨((t.notice .accountStopped (some st)).send st (.deny .badPin)).transmit st, q⟩ ∧
              t = { d.awake st with accounts := t.accounts } ∧
              t.account number.toNat = some { a with pinFailures := a.pinFailures + 1, state := .stopped } ∧
              ∀ m, m ≠ number.toNat → t.account m = d.account m)))) ∧
    ((d.ctx st).state = .offline .service →
      exec (.keyin st number pin) ⟨d, q⟩ = .next ⟨((d.heard st).send st (.deny .outOfService)).transmit st, q⟩) ∧
    ((d.ctx st).state ∈ [StationState.opened, .running, .held, .jammed .running, .jammed .held, .jammed .closing, .closing] ∨
        (∃ ref, (d.ctx st).state = .funding ref) →
      exec (.keyin st number pin) ⟨d, q⟩ = .next ⟨((d.awake st).send st (.deny .busy)).transmit st, q⟩))

/-- R5, R15, R16, R19, R38, R74, R115: a CARD in IDLE takes the lowest-numbered FREE slot, which enters AUTHORIZING with its AUTH
queued, and the station enters FUNDING; otherwise the card is declined and nothing else changes. -/
def Obligations.CardTakesSlotOrIsDeclined : Prop :=
  ∀ (d : Device) (q : List Instr) (st : Station) (token : List Byte), d.Hears st → token.length = 16 →
    (∀ i : SlotNo, (d.ctx st).state = .idle → (d.tariff.get d.tariff.selector).loaded = true → d.slotsOwned st < 2 →
      (d.slot i).state = .free → (∀ k, k < i → (d.slot k).state ≠ .free) →
      ∃ t : Device, exec (.card st token) ⟨d, q⟩ = .next ⟨t.transmit st, q⟩ ∧
        t.slot i = {
          generation := (d.slot i).generation + 1, state := .authorizing, owner := some st, token := some token
          asked := some d.mgmt.params.cardHold, reference := none, approved := 0, consumed := 0, provisional := 0
          lifetime := 0, renewalsRefused := false
          request := some { kind := .auth, place := .queued, funds := false, amount := 0 }
          finalWaiting := none, lapseTimer := none } ∧
        t.payQueue = d.payQueue ++ [{ ref := { slot := i, generation := (d.slot i).generation + 1 }, kind := .auth }] ∧
        t.ctx st = { d.ctx st with
          state := .funding { slot := i, generation := (d.slot i).generation + 1 }
          dozeTimer := none, idleTimer := none, waitTimer := none, jamTimer := none } ∧
        t.port st = (d.heard st).port st ∧ t.path st = d.path st ∧ d.OthersSame t st ∧
        d.OtherSlotsSame t i ∧ t.outstanding = d.outstanding ∧ t.staleVoids = d.staleVoids ∧ t.payReports = d.payReports ∧
        d.BooksSame t ∧ d.SetupSame t ∧ d.UplinkSame t ∧ t.tariff = d.tariff ∧ t.notices = d.notices) ∧
    ((d.ctx st).state = .idle → (d.tariff.get d.tariff.selector).loaded = false →
      exec (.card st token) ⟨d, q⟩ = .next ⟨((d.awake st).send st (.cardDeclined .noTariff)).transmit st, q⟩) ∧
    ((d.ctx st).state = .idle → (d.tariff.get d.tariff.selector).loaded = true → 2 ≤ d.slotsOwned st →
      exec (.card st token) ⟨d, q⟩ = .next ⟨((d.awake st).send st (.cardDeclined .busy)).transmit st, q⟩) ∧
    ((d.ctx st).state = .offline .service →
      exec (.card st token) ⟨d, q⟩ = .next ⟨((d.heard st).send st (.cardDeclined .outOfService)).transmit st, q⟩) ∧
    ((d.ctx st).state ∈ [StationState.opened, .running, .held, .jammed .running, .jammed .held, .jammed .closing, .closing] ∨
        (∃ ref, (d.ctx st).state = .funding ref) →
      exec (.card st token) ⟨d, q⟩ = .next ⟨((d.awake st).send st (.cardDeclined .busy)).transmit st, q⟩)

/-- R159: a SERVICE frame on the pass-through path. R172: a MGMT joins the input queue, or is discarded with UPLINK_DROP. -/
def Obligations.ServiceAndManagementFramesAreQueued : Prop :=
  (∀ (d : Device) (q : List Instr) (st : Station) (payload : List Byte), d.Hears st → (d.ctx st).state ≠ .doze →
    1 ≤ payload.length → payload.length ≤ 48 →
    (d.configs[st].forward = .block → exec (.service st payload) ⟨d, q⟩ = .next ⟨(d.awake st).transmit st, q⟩) ∧
    (d.configs[st].forward = .pass → d.serviceUp.length < 16 →
      exec (.service st payload) ⟨d, q⟩ =
        .next ⟨({ d.awake st with
          serviceUp := d.serviceUp ++ [{ station := st, payload := payload }] } : Device).transmit st, q⟩) ∧
    (d.configs[st].forward = .pass → 16 ≤ d.serviceUp.length →
      exec (.service st payload) ⟨d, q⟩ =
        .next ⟨(((d.awake st).modFaults st fun f => { f with uplinkDrop := true }).notice .uplinkDrop (some st)).transmit st,
          q⟩)) ∧
  (∀ (d : Device) (q : List Instr) (tag : Half) (kind : Byte) (params : List Byte), d.HearsUplink → params.length ≤ 93 →
    (d.mgmt.input.length < 4 →
      exec (.mgmt tag kind params) ⟨d, q⟩ =
        .next ⟨{ d.heardUplink with
          mgmt := { d.mgmt with input := d.mgmt.input ++ [{ tag := tag, kind := kind, params := params }] } }, q⟩) ∧
    (4 ≤ d.mgmt.input.length →
      exec (.mgmt tag kind params) ⟨d, q⟩ = .next ⟨d.heardUplink.notice .uplinkDrop none, q⟩))

/-- R161: a TEXT_DOWN by the station it names, in every state of the station: a number above 15 is a PROTOCOL fault of the uplink,
with no carrier the frame is discarded, with 2 texts queued it is discarded with UPLINK_DROP, and otherwise the text joins the
tail of the text queue; nothing else changes. -/
def Obligations.TextDownJoinsTheTextQueue : Prop :=
  ∀ (d : Device) (q : List Instr) (number : Byte) (text : List Byte), d.HearsUplink → 1 ≤ text.length → text.length ≤ 48 →
    (15 < number.toNat → exec (.textDown number text) ⟨d, q⟩ = .next ⟨d.heardUplink.notice .protocol none, q⟩) ∧
    (∀ st : Station, number.toNat = st.val →
      ((d.port st).carrier = false → exec (.textDown number text) ⟨d, q⟩ = .next ⟨d.heardUplink, q⟩) ∧
      ((d.port st).carrier = true → 2 ≤ (d.port st).textQueue.length →
        exec (.textDown number text) ⟨d, q⟩ =
          .next ⟨(d.heardUplink.modFaults st fun f => { f with uplinkDrop := true }).notice .uplinkDrop (some st), q⟩) ∧
      ((d.port st).carrier = true → (d.port st).textQueue.length < 2 →
        exec (.textDown number text) ⟨d, q⟩ =
          .next ⟨d.heardUplink.modPort st fun p => { p with textQueue := p.textQueue ++ [text] }, q⟩))

/-! ### Jobs and sheets (R28 to R71) -/

/-- R5, R32, R33 (first check): the refusals of a START by the station's state, and BAD_JOB. -/
def Obligations.StartIsRefused : Prop :=
  ∀ (d : Device) (q : List Instr) (st : Station) (sheets sets : Half) (sides size colour last : Byte), d.Hears st →
    let answer := fun r => .next ⟨((d.awake st).send st (.deny r)).transmit st, q⟩
    ((d.ctx st).state = .idle ∨ (∃ ref, (d.ctx st).state = .funding ref) →
      exec (.start st sheets sets sides size colour last) ⟨d, q⟩ = answer .noSession) ∧
    ((d.ctx st).state ∈ [StationState.held, .jammed .running, .jammed .held, .jammed .closing, .closing] →
      exec (.start st sheets sets sides size colour last) ⟨d, q⟩ = answer .busy) ∧
    ((d.ctx st).state = .running → d.path st ≠ [] ∨ (d.ctx st).endPending ≠ none →
      exec (.start st sheets sets sides size colour last) ⟨d, q⟩ = answer .busy) ∧
    ((d.ctx st).state = .offline .service →
      exec (.start st sheets sets sides size colour last) ⟨d, q⟩ = answer .outOfService) ∧
    ((d.ctx st).state = .opened →
      sheets.toNat = 0 ∨ 999 < sheets.toNat ∨ sets.toNat = 0 ∨ 9999 < sets.toNat ∨ sides.toNat = 0 ∨ 2 < sides.toNat ∨
        3 < size.toNat ∨ 1 < colour.toNat →
      exec (.start st sheets sets sides size colour last) ⟨d, q⟩ = answer .badJob)

/-- R29, R30, R33, R34, R90: the admission of an account session's job. -/
def Obligations.AccountJobIsAdmitted : Prop :=
  ∀ (d : Device) (q : List Instr) (st : Station) (sheets sets : Half) (sides size colour last : Byte) (o : JobOrder)
    (s : Session) (n : Nat) (a : Account), d.Hears st → (d.ctx st).state = .opened → (d.ctx st).session = some s →
    s.funding = .account n → d.account n = some a → (d.ctx st).refillAsked = none → d.path st = [] →
    readOrder sheets sets sides size colour last = some o →
    let side := ((d.tariff.get s.bank).prices[priceClass o.size o.colour]).toNat
    let price := o.sides * side
    let available := a.limit - a.spent - a.draws
    let draw := min (max d.mgmt.params.drawSize price) available
    let allowance := if side = 0 then 65535 else min (draw / side) 65535
    let run := exec (.start st sheets sets sides size colour last) ⟨d, q⟩
    let permitted := (o.colour = .colour → a.colourPermitted = true) ∧ o.size ≤ a.maxSize
    (¬ permitted → run = .next ⟨((d.awake st).send st (.deny .notAllowed)).transmit st, q⟩) ∧
    (permitted → a.state = .closed → run = .next ⟨((d.awake st).send st (.deny .closed)).transmit st, q⟩) ∧
    (permitted → a.state = .stopped → run = .next ⟨((d.awake st).send st (.deny .stopped)).transmit st, q⟩) ∧
    (permitted → a.state = .active → a.waiting ≠ [] ∨ available < price →
      run = .next ⟨((d.awake st).send st (.deny .noFunds)).transmit st, q⟩) ∧
    (permitted → a.state = .active → a.waiting = [] → price ≤ available →
      ∃ t : Device, run = .next ⟨t.transmit st, q⟩ ∧
        t.ctx st = { d.ctx st with
          state := .running, dozeTimer := none, idleTimer := none, waitTimer := none, jamTimer := none
          session := some { s with jobs := s.jobs + 1 }
          job := some { o.job (some draw) .none with allowance := allowance } } ∧
        t.account n = some { a with draws := a.draws + draw } ∧ (∀ m, m ≠ n → t.account m = d.account m) ∧
        t.port st = ((d.heard st).send st (.go allowance)).port st ∧ t.path st = [] ∧
        d.OthersSame t st ∧ d.PaymentsSame t ∧ d.SetupSame t ∧ d.UplinkSame t ∧ t.exporting = d.exporting ∧
        t.tariff = d.tariff)

/-- R29, R30, R31, R33, R35, R47, R122: the admission of a card session's job. -/
def Obligations.CardJobIsAdmitted : Prop :=
  ∀ (d : Device) (q : List Instr) (st : Station) (sheets sets : Half) (sides size colour last : Byte) (o : JobOrder)
    (s : Session) (ref : SlotRef), d.Hears st → (d.ctx st).state = .opened → (d.ctx st).session = some s →
    s.funding = .card ref → d.path st = [] → readOrder sheets sets sides size colour last = some o →
    let slot := d.slot ref.slot
    let side := ((d.tariff.get s.bank).prices[priceClass o.size o.colour]).toNat
    let price := o.sides * side
    let headroom := slot.approved - slot.consumed - slot.provisional
    let allowance := if side = 0 then 65535 else min (headroom / side) 65535
    let run := exec (.start st sheets sets sides size colour last) ⟨d, q⟩
    let held := { d.ctx st with
      state := .held, dozeTimer := none, idleTimer := none, waitTimer := some d.mgmt.params.idleTime, jamTimer := none
      session := some { s with jobs := s.jobs + 1 }, job := some (o.job none .renew) }
    (slot.state = .active ∨ slot.state = .renewing → price ≤ headroom →
      ∃ t : Device, run = .next ⟨t.transmit st, q⟩ ∧
        t.ctx st = { d.ctx st with
          state := .running, dozeTimer := none, idleTimer := none, waitTimer := none, jamTimer := none
          session := some { s with jobs := s.jobs + 1 }
          job := some { o.job none .none with allowance := allowance } } ∧
        t.port st = ((d.heard st).send st (.go allowance)).port st ∧ t.path st = [] ∧
        d.OthersSame t st ∧ d.PaymentsSame t ∧ d.BooksSame t ∧ d.SetupSame t ∧ d.UplinkSame t ∧ t.tariff = d.tariff) ∧
    (slot.state = .active → headroom < price → slot.renewalsRefused = false → slot.approved < 16777215 →
      ∃ t : Device, run = .next ⟨t.transmit st, q⟩ ∧ t.ctx st = held ∧
        t.slot ref.slot = { slot with
          state := .renewing, request := some { kind := .renew, place := .queued, funds := true, amount := 0 } } ∧
        t.payQueue = d.payQueue ++ [{ ref := d.slotRef ref.slot, kind := .renew }] ∧
        t.port st = ((d.heard st).send st (.pause .funds)).port st ∧ t.path st = [] ∧
        d.OthersSame t st ∧ d.OtherSlotsSame t ref.slot ∧ d.BooksSame t ∧ d.SetupSame t ∧ d.UplinkSame t) ∧
    (slot.state = .renewing → headroom < price → slot.renewalsRefused = false →
      ∃ t : Device, run = .next ⟨t.transmit st, q⟩ ∧ t.ctx st = held ∧
        t.slot ref.slot = { slot with request := slot.request.map fun r => { r with funds := true } } ∧
        t.payQueue = d.payQueue ∧ t.port st = ((d.heard st).send st (.pause .funds)).port st ∧ t.path st = [] ∧
        d.OthersSame t st ∧ d.OtherSlotsSame t ref.slot ∧ d.BooksSame t ∧ d.SetupSame t ∧ d.UplinkSame t) ∧
    (slot.state = .active → headroom < price → slot.renewalsRefused = false → 16777215 ≤ slot.approved →
      run = .next ⟨(((d.awake st).modSlot ref.slot fun s => { s with renewalsRefused := true }).send st
        (.deny .noFunds)).transmit st, q⟩) ∧
    ((slot.state ≠ .active ∧ slot.state ≠ .renewing) ∨ (headroom < price ∧ slot.renewalsRefused = true) →
      run = .next ⟨((d.awake st).send st (.deny .noFunds)).transmit st, q⟩)

/-- R36, R50, R94: a START in RUNNING with an empty path and end pending clear replaces the job: JOB_END(REPLACED) is sent, the old
job's draw is returned, its station taken off the waiting list and the list served, and the order is then taken as in OPEN (R33 to
R35): admitted, it is a new job, with its GO, or in a card session that waits for its renewal its PAUSE(FUNDS), after the JOB_END;
refused, the DENY follows the JOB_END and the station enters OPEN with its BALANCE. Both jobs count if the new one is admitted. -/
def Obligations.StartReplacesJob : Prop :=
  ∀ (d : Device) (q : List Instr) (st : Station) (sheets sets : Half) (sides size colour last : Byte) (s : Session) (j : Job),
    d.Hears st → (d.ctx st).state = .running → (d.ctx st).session = some s → (d.ctx st).job = some j → d.path st = [] →
    (d.ctx st).endPending = none →
    let run := exec (.start st sheets sets sides size colour last) ⟨d, q⟩
    let told := (d.heard st).send st (.jobEnd .replaced)
    let base := fun (t : Device) => run = .next ⟨t.transmit st, q⟩ ∧ t.path st = [] ∧ d.OthersSameButMail t st ∧
      t.exporting = d.exporting ∧ d.SetupSame t ∧ d.UplinkSame t ∧ t.tariff = d.tariff
    let denied := fun (t : Device) (r : DenyReason) (balance : Nat) => base t ∧
      t.ctx st = { d.ctx st with
        state := .opened, job := none, dozeTimer := none, idleTimer := some d.mgmt.params.idleTime, waitTimer := none
        jamTimer := none, accountMail := (t.ctx st).accountMail } ∧
      t.port st = ((told.send st (.deny r)).send st (.balance balance)).port st
    let started := fun (t : Device) (state : StationState) (wait : Option Nat) (k : Job) (f : StationFrame) => base t ∧
      t.ctx st = { d.ctx st with
        state := state, job := some k, session := some { s with jobs := s.jobs + 1 }
        dozeTimer := none, idleTimer := none, waitTimer := wait, jamTimer := none, accountMail := (t.ctx st).accountMail } ∧
      t.port st = (told.send st f).port st
    let allowance := fun (funds side : Nat) => if side = 0 then 65535 else min (funds / side) 65535
    (∀ ref, s.funding = .card ref →
      let slot := d.slot ref.slot
      let balance := slot.approved - slot.consumed
      let headroom := slot.approved - slot.consumed - slot.provisional
      (readOrder sheets sets sides size colour last = none →
        ∃ t : Device, denied t .badJob balance ∧ d.PaymentsSame t ∧ t.accounts = d.accounts) ∧
      (∀ o, readOrder sheets sets sides size colour last = some o →
        let side := ((d.tariff.get s.bank).prices[priceClass o.size o.colour]).toNat
        (slot.state = .active ∨ slot.state = .renewing → o.sides * side ≤ headroom →
          ∃ t : Device, started t .running none { o.job none .none with allowance := allowance headroom side }
              (.go (allowance headroom side)) ∧ d.PaymentsSame t ∧ t.accounts = d.accounts) ∧
        (slot.state = .active → headroom < o.sides * side → slot.renewalsRefused = false → slot.approved < 16777215 →
          ∃ t : Device, started t .held (some d.mgmt.params.idleTime) (o.job none .renew) (.pause .funds) ∧
            t.slot ref.slot = { slot with
              state := .renewing, request := some { kind := .renew, place := .queued, funds := true, amount := 0 } } ∧
            t.payQueue = d.payQueue ++ [{ ref := d.slotRef ref.slot, kind := .renew }] ∧ d.OtherSlotsSame t ref.slot ∧
            t.accounts = d.accounts) ∧
        (slot.state = .renewing → headroom < o.sides * side → slot.renewalsRefused = false →
          ∃ t : Device, started t .held (some d.mgmt.params.idleTime) (o.job none .renew) (.pause .funds) ∧
            t.slot ref.slot = { slot with request := slot.request.map fun r => { r with funds := true } } ∧
            t.payQueue = d.payQueue ∧ d.OtherSlotsSame t ref.slot ∧ t.accounts = d.accounts) ∧
        (slot.state = .active → headroom < o.sides * side → slot.renewalsRefused = false → 16777215 ≤ slot.approved →
          ∃ t : Device, denied t .noFunds balance ∧ t.slot ref.slot = { slot with renewalsRefused := true } ∧
            t.payQueue = d.payQueue ∧ d.OtherSlotsSame t ref.slot ∧ t.accounts = d.accounts) ∧
        ((slot.state ≠ .active ∧ slot.state ≠ .renewing) ∨ (headroom < o.sides * side ∧ slot.renewalsRefused = true) →
          ∃ t : Device, denied t .noFunds balance ∧ d.PaymentsSame t ∧ t.accounts = d.accounts))) ∧
    (∀ n a, s.funding = .account n → d.account n = some a → (d.ctx st).refillAsked = none →
      ∃ (x : Device) (b : Account), d.DrawReturned x st n a b (j.draw.getD 0) ∧
        let available := b.limit - b.spent - b.draws
        let refused := fun r => ∃ t : Device, denied t r available ∧ d.PaymentsSame t ∧ t.accounts = x.accounts ∧
          ∀ y, (t.ctx y).accountMail = (x.ctx y).accountMail
        (readOrder sheets sets sides size colour last = none → refused .badJob) ∧
        (∀ o, readOrder sheets sets sides size colour last = some o →
          let side := ((d.tariff.get s.bank).prices[priceClass o.size o.colour]).toNat
          let price := o.sides * side
          let draw := min (max d.mgmt.params.drawSize price) available
          let permitted := (o.colour = .colour → b.colourPermitted = true) ∧ o.size ≤ b.maxSize
          (¬ permitted → refused .notAllowed) ∧
          (permitted → b.state = .closed → refused .closed) ∧
          (permitted → b.state = .stopped → refused .stopped) ∧
          (permitted → b.state = .active → b.waiting ≠ [] ∨ available < price → refused .noFunds) ∧
          (permitted → b.state = .active → b.waiting = [] → price ≤ available →
            ∃ t : Device, started t .running none { o.job (some draw) .none with allowance := allowance draw side }
                (.go (allowance draw side)) ∧ d.PaymentsSame t ∧
              t.account n = some { b with draws := b.draws + draw } ∧ (∀ m, m ≠ n → t.account m = d.account m) ∧
              ∀ y, (t.ctx y).accountMail = (x.ctx y).accountMail)))

/-- R39, R40, R53: a FEED in RUNNING, HELD or CLOSING with a new ordinal and room in the list makes an entry at its tail, funded if the
free headroom covers its price. R41, R122: after a FEED at the job's own price in RUNNING, a job that has not stopped and asked for
nothing seeks funds when the headroom left does not cover one sheet: a refill of its account, or a renewal of its hold, which
leaves it HELD. -/
def Obligations.FeedMakesEntryAndSeeksFunds : Prop :=
  (∀ (d : Device) (q : List Instr) (st : Station) (ordinal : Half) (size colour : Byte) (s : Session) (j : Job)
    (z : SizeClass) (m : ColourMode), d.Hears st → (d.ctx st).state ∈ [StationState.running, .held, .closing] →
    (d.ctx st).session = some s → (d.ctx st).job = some j → (∀ e ∈ d.path st, e.ordinal ≠ ordinal) →
    (d.path st).length < 8 →
    ((size = 0xFF#8 ∧ z = j.size) ∨ (size ≠ 0xFF#8 ∧ size.toNat = z.val)) →
    ((colour = 0xFF#8 ∧ m = j.colour) ∨ (colour ≠ 0xFF#8 ∧ colour.toNat = m.number)) →
    let price := j.sides * ((d.tariff.get s.bank).prices[priceClass z m]).toNat
    let funded := decide (price ≤ d.headroom st)
    let owed := if j.outer = 0 then 0 else (j.outer - 1) * j.sheetsPerSet + j.inner
    let e : PathEntry := {
      ordinal := ordinal, sides := j.sides, size := z, colour := m, price := price
      provisional := if funded then price else 0, funded := funded
      surplus := (d.path st).countP (fun e => !e.surplus) == owed, mark := none }
    ∃ t : Device, exec (.feed st ordinal size colour) ⟨d, q⟩ = .next ⟨t.transmit st, q⟩ ∧ t.path st = d.path st ++ [e] ∧
      (∃ k, (t.ctx st).job = some k ∧ k.fed = j.fed + 1 ∧ k.allowance ≤ j.allowance - j.sides ∧
        k = { j with fed := k.fed, allowance := k.allowance, fundsRequest := k.fundsRequest, fundsEnded := k.fundsEnded }) ∧
      t.ctx st = { d.ctx st with
        state := (t.ctx st).state, job := (t.ctx st).job, refillAsked := (t.ctx st).refillAsked
        dozeTimer := (t.ctx st).dozeTimer, idleTimer := (t.ctx st).idleTimer, waitTimer := none
        jamTimer := (t.ctx st).jamTimer
        faults := { (d.ctx st).faults with pathFull := (d.ctx st).faults.pathFull || (d.path st).length == 7 } } ∧
      (∀ n, s.funding = .account n → d.PaymentsSame t) ∧
      (∀ ref, s.funding = .card ref →
        (t.slot ref.slot).provisional = (d.slot ref.slot).provisional + e.provisional ∧ d.OtherSlotsSame t ref.slot) ∧
      d.OthersSame t st ∧ d.BooksSame t ∧ d.SetupSame t ∧ d.UplinkSame t ∧ t.tariff = d.tariff) ∧
  (∀ (d : Device) (q : List Instr) (st : Station) (ordinal : Half) (s : Session) (j : Job), d.Hears st →
    (d.ctx st).state = .running → (d.ctx st).session = some s → (d.ctx st).job = some j →
    (∀ e ∈ d.path st, e.ordinal ≠ ordinal) → (d.path st).length < 7 → j.stopPending = false → j.fundsRequest = .none →
    let price := j.sides * ((d.tariff.get s.bank).prices[priceClass j.size j.colour]).toNat
    let fed := { j with fed := j.fed + 1, allowance := j.allowance - j.sides }
    ∃ t : Device, exec (.feed st ordinal 0xFF#8 0xFF#8) ⟨d, q⟩ = .next ⟨t.transmit st, q⟩ ∧
      (2 * price ≤ d.headroom st →
        (t.ctx st).state = .running ∧ (t.ctx st).job = some fed ∧ (t.ctx st).refillAsked = (d.ctx st).refillAsked ∧
        t.port st = (d.heard st).port st) ∧
      (∀ n, s.funding = .account n → d.headroom st < 2 * price →
        (t.ctx st).state = .running ∧ (t.ctx st).job = some { fed with fundsRequest := .refill } ∧
        (t.ctx st).refillAsked = some { number := n, oneSheetPrice := price } ∧ t.port st = (d.heard st).port st) ∧
      (∀ ref, s.funding = .card ref → d.headroom st < 2 * price → (d.slot ref.slot).state = .active →
        (d.slot ref.slot).renewalsRefused = false → (d.slot ref.slot).approved < 16777215 →
        (t.ctx st).state = .held ∧ (t.ctx st).job = some { fed with fundsRequest := .renew, allowance := 0 } ∧
        (t.slot ref.slot).state = .renewing ∧
        (t.slot ref.slot).request = some { kind := .renew, place := .queued, funds := true, amount := 0 } ∧
        t.payQueue = d.payQueue ++ [{ ref := d.slotRef ref.slot, kind := .renew }] ∧
        t.port st = ((d.heard st).send st (.pause .funds)).port st) ∧
      (∀ ref, s.funding = .card ref → d.headroom st < 2 * price → (d.slot ref.slot).state = .active →
        (d.slot ref.slot).renewalsRefused = true →
        (t.ctx st).state = .held ∧ (t.ctx st).job = some { fed with fundsEnded := true, allowance := 0 } ∧
        t.payQueue = d.payQueue ∧ t.port st = ((d.heard st).send st (.pause .funds)).port st))

/-- R5, R16, R19, R38, R39, R42, R55, R59, R65: the frames about sheets where the station cannot take them are PROTOCOL faults and
change nothing else; a sheet fed to a full list is one too, and is counted untracked. -/
def Obligations.SheetFramesOutOfPlaceAreFaults : Prop :=
  ∀ (d : Device) (q : List Instr) (st : Station) (ordinal : Half) (size colour : Byte) (ordinals : List Half)
    (items : List (Half × Byte)), d.Hears st → ordinals.length ≤ 8 → items.length ≤ 8 →
    let fault := .next
      ⟨(((d.awake st).modFaults st fun f => { f with protocol := true }).notice .protocol (some st)).transmit st, q⟩
    ((d.ctx st).state ∈ [StationState.idle, .opened, .offline .service] ∨ (∃ ref, (d.ctx st).state = .funding ref) ∨
        ((d.ctx st).state = .closing ∧ (d.ctx st).job = none) →
      exec (.feed st ordinal size colour) ⟨d, q⟩ = fault ∧ exec (.exit st ordinal) ⟨d, q⟩ = fault ∧
      exec (.jam st ordinals) ⟨d, q⟩ = fault ∧ exec (.clear st items) ⟨d, q⟩ = fault) ∧
    ((d.ctx st).state ∈ [StationState.running, .held, .closing] → exec (.clear st items) ⟨d, q⟩ = fault) ∧
    ((d.ctx st).state ∈ [StationState.jammed .running, .jammed .held, .jammed .closing] →
      exec (.feed st ordinal size colour) ⟨d, q⟩ = fault) ∧
    ((d.ctx st).state ∈ [StationState.running, .held, .closing] → (∃ e ∈ d.path st, e.ordinal = ordinal) →
      exec (.feed st ordinal size colour) ⟨d, q⟩ = fault) ∧
    ((d.ctx st).state ∈ [StationState.running, .held, .closing] → (d.ctx st).session ≠ none → (d.ctx st).job ≠ none →
      (∀ e ∈ d.path st, e.ordinal ≠ ordinal) → 8 ≤ (d.path st).length →
      exec (.feed st ordinal 0xFF#8 0xFF#8) ⟨d, q⟩ =
        .next ⟨(((((d.heard st).modJob st fun j => { j with
          fed := j.fed + 1, untracked := j.untracked + 1, allowance := j.allowance - j.sides }).modSession st fun s =>
          { s with untracked := s.untracked + 1 }).modFaults st fun f => { f with protocol := true }).notice .protocol
          (some st)).transmit st, q⟩) ∧
    ((d.ctx st).state ∈ [StationState.running, .held, .closing, .jammed .running, .jammed .held, .jammed .closing] →
      (∀ e ∈ d.path st, e.ordinal ≠ ordinal) → exec (.exit st ordinal) ⟨d, q⟩ = fault)

/-- R37, R42, R43, R95: an EXIT in RUNNING of a sheet that is not the last in the path: the entry leaves its place and the sheet
is delivered: counted in the job, the session and the meters, and committed to the account or the hold if it was funded, else
added to the shortfall. -/
def Obligations.ExitDeliversSheet : Prop :=
  ∀ (d : Device) (q : List Instr) (st : Station) (s : Session) (j : Job) (e : PathEntry) (front back : List PathEntry),
    d.Hears st → (d.ctx st).state = .running → (d.ctx st).session = some s → (d.ctx st).job = some j →
    d.path st = front ++ e :: back → (∀ x ∈ front, x.ordinal ≠ e.ordinal) → front ++ back ≠ [] →
    (d.path st).length < 8 →
    let counted := { j with
      delivered := j.delivered + 1, surplus := if e.surplus then j.surplus + 1 else j.surplus
      inner := if e.surplus then j.inner else if j.inner ≤ 1 then j.sheetsPerSet else j.inner - 1
      outer := if e.surplus then j.outer else if j.inner ≤ 1 then j.outer - 1 else j.outer }
    let cls := priceClass e.size e.colour
    let committed := { s with
      committedSides := s.committedSides.set cls (s.committedSides[cls] + BitVec.ofNat 32 e.sides)
      amountCommitted := s.amountCommitted + BitVec.ofNat 32 e.price }
    let short := { s with
      shortfallSides := s.shortfallSides + BitVec.ofNat 32 e.sides
      shortfallAmount := s.shortfallAmount + BitVec.ofNat 32 e.price }
    ∃ t : Device, exec (.exit st e.ordinal) ⟨d, q⟩ = .next ⟨t.transmit st, q⟩ ∧ t.path st = front ++ back ∧
      (t.ctx st).state = .running ∧
      (t.ctx st).meters = { (d.ctx st).meters with
        deliveredSides := (d.ctx st).meters.deliveredSides.set cls
          ((d.ctx st).meters.deliveredSides[cls] + BitVec.ofNat 32 e.sides) } ∧
      (t.ctx st).endPending = (d.ctx st).endPending ∧ t.port st = (d.heard st).port st ∧ d.OthersSame t st ∧ d.SetupSame t ∧
      d.UplinkSame t ∧ t.tariff = d.tariff ∧ t.exporting = d.exporting ∧
      (∀ n a, s.funding = .account n → e.funded = true → d.account n = some a → (d.ctx st).refillAsked = none →
        (t.ctx st).job = some { counted with draw := j.draw.map fun x => x - e.price } ∧
        (t.ctx st).session = some committed ∧ (t.ctx st).faults = (d.ctx st).faults ∧ d.PaymentsSame t ∧
        t.account n = some { a with
          draws := a.draws - e.price, spent := a.spent + e.price
          live := { a.live with
            sides := a.live.sides.set cls (a.live.sides[cls] + BitVec.ofNat 32 e.sides)
            amount := a.live.amount + BitVec.ofNat 32 e.price } } ∧
        (∀ m, m ≠ n → t.account m = d.account m) ∧ t.notices = d.notices) ∧
      (∀ ref, s.funding = .card ref → e.funded = true →
        (t.ctx st).job = some counted ∧ (t.ctx st).session = some committed ∧ (t.ctx st).faults = (d.ctx st).faults ∧
        t.slot ref.slot = { d.slot ref.slot with
          provisional := (d.slot ref.slot).provisional - e.price, consumed := (d.slot ref.slot).consumed + e.price } ∧
        d.OtherSlotsSame t ref.slot ∧ t.payQueue = d.payQueue ∧ d.BooksSame t ∧ t.notices = d.notices) ∧
      (e.funded = false →
        (t.ctx st).job = some counted ∧ (t.ctx st).session = some short ∧
        (t.ctx st).faults = { (d.ctx st).faults with shortfall := true } ∧ d.PaymentsSame t ∧ d.BooksSame t ∧
        t.notices = (d.notice .shortfall (some st)).notices)

/-- R22, R37, R44, R50, R94: the EXIT of the last sheet owed, which leaves the path empty, ends the job COMPLETE: JOB_END is sent and
the meter counts it. The session then ends with the reason in end pending, or AUTO if the last-job flag is set: with room for its
report the station is IDLE, without room it waits in CLOSING. Otherwise the station returns to OPEN with its BALANCE. In a card
session the sheet's price is consumed from the hold. In an account session it is spent, the rest of the draw is returned, the
station leaves the waiting list, the list is served, and the BALANCE is the available amount after that. -/
def Obligations.LastExitCompletesJob : Prop :=
  ∀ (d : Device) (q : List Instr) (st : Station) (s : Session) (j : Job) (e : PathEntry), d.Hears st →
    (d.ctx st).state ∈ [StationState.running, .held, .closing] → (d.ctx st).session = some s → (d.ctx st).job = some j →
    d.path st = [e] → e.funded = true → e.surplus = false → j.inner ≤ 1 → j.outer = 1 →
    let run := exec (.exit st e.ordinal) ⟨d, q⟩
    let ends := (d.ctx st).endPending.or (if j.lastJob then some .auto else none)
    let cls := priceClass e.size e.colour
    let told := (d.heard st).send st (.jobEnd .complete)
    let amount := s.amountCommitted + BitVec.ofNat 32 e.price
    let ended := fun (t : Device) => run = .next ⟨t.transmit st, q⟩ ∧ (t.ctx st).job = none ∧ t.path st = [] ∧
      (t.ctx st).meters.jobsCompleted = (d.ctx st).meters.jobsCompleted + 1 ∧ d.OthersSameButMail t st
    let opened := fun (t : Device) (balance : Nat) => (t.ctx st).state = .opened ∧
      (t.ctx st).session.map (·.amountCommitted) = some amount ∧
      (t.ctx st).idleTimer = some d.mgmt.params.idleTime ∧ t.port st = (told.send st (.balance balance)).port st ∧
      t.reports = d.reports
    let closed := fun (t : Device) (r : EndReason) (funding : ReportFunding) => (t.ctx st).state = .idle ∧
      (t.ctx st).session = none ∧ t.port st = (told.send st (.sessionEnd r)).port st ∧
      ∃ x, t.reports = d.reports ++ [x] ∧ x.station = st ∧ x.endReason = r ∧ x.funding = funding ∧ x.amountCommitted = amount
    let waits := fun (t : Device) (r : EndReason) => (t.ctx st).state = .closing ∧ (t.ctx st).endPending = some r ∧
      (t.ctx st).session.map (·.amountCommitted) = some amount ∧ t.port st = told.port st ∧ t.reports = d.reports
    (∀ ref, s.funding = .card ref →
      let slot := d.slot ref.slot
      let spent := { slot with provisional := slot.provisional - e.price, consumed := slot.consumed + e.price }
      (ends = none → ∃ t : Device, ended t ∧ opened t (slot.approved - (slot.consumed + e.price)) ∧ t.slot ref.slot = spent) ∧
      (∀ r, ends = some r → r ≠ .carrier →
        (d.HasRoom st → ∃ t : Device, ended t ∧ closed t r (.card slot.reference) ∧
          (slot.state = .active ∨ slot.state = .expired → t.slot ref.slot = spent.finalized)) ∧
        (¬ d.HasRoom st → ∃ t : Device, ended t ∧ waits t r ∧ t.slot ref.slot = spent))) ∧
    (∀ n a, s.funding = .account n → d.account n = some a → (d.ctx st).refillAsked = none →
      let left := j.draw.getD 0 - e.price
      let spent := { a with
        draws := a.draws - e.price, spent := a.spent + e.price
        live := { a.live with
          sides := a.live.sides.set cls (a.live.sides[cls] + BitVec.ofNat 32 e.sides)
          amount := a.live.amount + BitVec.ofNat 32 e.price } }
      (ends = none → ∃ (t : Device) (b : Account), ended t ∧ opened t (b.limit - b.spent - b.draws) ∧
        d.DrawReturned t st n spent b left) ∧
      (∀ r, ends = some r → r ≠ .carrier →
        (d.HasRoom st → ∃ (t : Device) (b : Account), ended t ∧ closed t r (.account n) ∧
          d.DrawReturned t st n { spent with openSessions := a.openSessions - 1 } b left) ∧
        (¬ d.HasRoom st → ∃ (t : Device) (b : Account), ended t ∧ waits t r ∧ d.DrawReturned t st n spent b left)))

/-- R53, R55, R56, R57, R58: a JAM takes a station with a job from RUNNING, HELD or CLOSING into JAMMED with that state as its
resume state, its jam timer started, its meter and notice, and every entry marked NAMED or MISSING; in JAMMED it replaces the
marks alone. An ordinal that no entry carries, or a repeat, is one PROTOCOL fault. -/
def Obligations.JamMarksThePath : Prop :=
  ∀ (d : Device) (q : List Instr) (st : Station) (j : Job) (ordinals : List Half), d.Hears st → ordinals.length ≤ 8 →
    (d.ctx st).job = some j →
    let marked := (d.path st).map fun e => { e with mark := some (if e.ordinal ∈ ordinals then .named else .missing) }
    let bad := ¬ ordinals.Nodup ∨ ∃ o ∈ ordinals, ∀ e ∈ d.path st, e.ordinal ≠ o
    let faulted := fun (x : Device) => (x.modFaults st fun f => { f with protocol := true }).notice .protocol (some st)
    (∀ r : Resume, (d.ctx st).state = (match r with
        | .running => .running
        | .held => .held
        | .closing => .closing) →
      let jammed := ((d.heard st).modCtx st fun c => { c with
        state := .jammed r, dozeTimer := none, idleTimer := none, waitTimer := none
        jamTimer := some (d.mgmt.params.jamTime * 60), meters := { c.meters with jams := c.meters.jams + 1 } }).notice
          .jam (some st)
      (¬ bad → exec (.jam st ordinals) ⟨d, q⟩ = .next ⟨(jammed.setPath st marked).transmit st, q⟩) ∧
      (bad → exec (.jam st ordinals) ⟨d, q⟩ = .next ⟨((faulted jammed).setPath st marked).transmit st, q⟩)) ∧
    (∀ r, (d.ctx st).state = .jammed r →
      (¬ bad → exec (.jam st ordinals) ⟨d, q⟩ = .next ⟨((d.heard st).setPath st marked).transmit st, q⟩) ∧
      (bad → exec (.jam st ordinals) ⟨d, q⟩ = .next ⟨((faulted (d.heard st)).setPath st marked).transmit st, q⟩))

/-- R65 to R69: a CLEAR ends the jam whatever its content: the entries given REFEED stay in their order, without marks and otherwise as
they were, every other entry leaves the list, the jam timer stops and the station leaves JAMMED. R30, R54, R67: an empty CLEAR
under FORGIVE, with the resume state RUNNING and a card job that has neither stopped nor run out of funds: every entry is forgiven
and its charge returned, and the station is RUNNING again with a GO. -/
def Obligations.ClearEndsTheJam : Prop :=
  (∀ (d : Device) (q : List Instr) (st : Station) (s : Session) (j : Job) (items : List (Half × Byte)), d.Hears st →
    items.length ≤ 8 → (d.ctx st).session = some s → (d.ctx st).job = some j →
    (d.ctx st).state ∈ [StationState.jammed .running, .jammed .held, .jammed .closing] →
    ((d.path st).map (·.ordinal)).Nodup →
    ∃ t : Device, exec (.clear st items) ⟨d, q⟩ = .next ⟨t.transmit st, q⟩ ∧
      t.path st = ((d.path st).filter fun e => (items.find? fun i =>
        i.1 == e.ordinal && (i.2 == 1#8 || i.2 == 2#8 || i.2 == 3#8)).any fun i => i.2 == 3#8).map
          (fun e => { e with mark := none }) ∧
      (t.ctx st).state ∈ [StationState.idle, .opened, .running, .held, .closing] ∧ (t.ctx st).jamTimer = none ∧
      (t.ctx st).meters.jams = (d.ctx st).meters.jams ∧
      (∀ x, x ≠ st → t.path x = d.path x ∧ t.port x = d.port x) ∧ d.SetupSame t ∧ t.uplink = d.uplink ∧
      t.exporting = d.exporting) ∧
  (∀ (d : Device) (q : List Instr) (st : Station) (s : Session) (j : Job) (ref : SlotRef), d.Hears st →
    (d.ctx st).session = some s → s.funding = .card ref → (d.ctx st).job = some j →
    (d.ctx st).state = .jammed .running → d.configs[st].jamPolicy = .forgive → ((d.path st).map (·.ordinal)).Nodup →
    j.outer ≠ 0 → j.stopPending = false → j.fundsEnded = false → j.fundsRequest = .none →
    let side := ((d.tariff.get s.bank).prices[priceClass j.size j.colour]).toNat
    let provisional := (d.slot ref.slot).provisional - ((d.path st).map (·.provisional)).sum
    let headroom := (d.slot ref.slot).approved - (d.slot ref.slot).consumed - provisional
    let allowance := if side = 0 then 65535 else min (headroom / side) 65535
    let n := BitVec.ofNat 32 (d.path st).length
    j.sides * side ≤ headroom →
    ∃ t : Device, exec (.clear st []) ⟨d, q⟩ = .next ⟨t.transmit st, q⟩ ∧ t.path st = [] ∧
      t.ctx st = { d.ctx st with
        state := .running, dozeTimer := none, idleTimer := none, waitTimer := none, jamTimer := none
        job := some { j with forgiven := j.forgiven + n, allowance := allowance }
        session := some { s with forgiven := s.forgiven + n } } ∧
      t.slot ref.slot = { d.slot ref.slot with provisional := provisional } ∧ d.OtherSlotsSame t ref.slot ∧
      t.port st = ((d.heard st).send st (.go allowance)).port st ∧ d.OthersSame t st ∧ d.BooksSame t ∧ d.SetupSame t ∧
      d.UplinkSame t ∧ t.payQueue = d.payQueue)

/-- R16, R19, R23, R38, R49, R61: a STOP sets stop pending and takes a waiting station from its account's list; a second STOP, or one
without a job, changes nothing. R22, R49, R50, R94: with an empty path the job ends STOPPED at once and the station is OPEN with its
BALANCE; the draw of an account session's job is returned, the station is off the waiting list, and the list is served. -/
def Obligations.StopIsTaken : Prop :=
  ∀ (d : Device) (q : List Instr) (st : Station), d.Hears st →
    ((d.ctx st).state ≠ .doze → (d.ctx st).job = none → exec (.stop st) ⟨d, q⟩ = .next ⟨(d.awake st).transmit st, q⟩) ∧
    (∀ j, (d.ctx st).state ≠ .doze → (d.ctx st).job = some j → j.stopPending = true →
      exec (.stop st) ⟨d, q⟩ = .next ⟨(d.awake st).transmit st, q⟩) ∧
    (∀ j, (d.ctx st).job = some j → j.stopPending = false →
      ((d.ctx st).state ∈ [StationState.running, .held] ∧ d.path st ≠ []) ∨
        (d.ctx st).state ∈ [StationState.closing, .jammed .running, .jammed .held, .jammed .closing] →
      ((d.ctx st).state = .closing ∨ j.fundsRequest ≠ .waiting →
        exec (.stop st) ⟨d, q⟩ = .next ⟨((d.heard st).modJob st fun j => { j with stopPending := true }).transmit st, q⟩) ∧
      (∀ s n, (d.ctx st).state ≠ .closing → j.fundsRequest = .waiting → (d.ctx st).session = some s →
        s.funding = .account n → (d.ctx st).refillAsked = none →
        exec (.stop st) ⟨d, q⟩ =
          .next ⟨(((d.heard st).modJob st fun j => { j with stopPending := true, fundsRequest := .none }).modAccount n fun a =>
            { a with waiting := a.waiting.filter fun w => w.station ≠ st }).transmit st, q⟩)) ∧
    (∀ s j, (d.ctx st).state ∈ [StationState.running, .held] → (d.ctx st).session = some s → (d.ctx st).job = some j →
      j.stopPending = false → d.path st = [] → j.outer ≠ 0 → (d.ctx st).endPending = none →
      let told := (d.heard st).send st (.jobEnd .stopped)
      let opened := fun (t : Device) (balance : Nat) =>
        exec (.stop st) ⟨d, q⟩ = .next ⟨t.transmit st, q⟩ ∧
        t.ctx st = { d.ctx st with
          state := .opened, job := none, dozeTimer := none, idleTimer := some d.mgmt.params.idleTime
          waitTimer := none, jamTimer := none, accountMail := (t.ctx st).accountMail } ∧
        t.port st = (told.send st (.balance balance)).port st ∧ t.path st = [] ∧ d.OthersSameButMail t st ∧
        d.PaymentsSame t ∧ t.exporting = d.exporting ∧ d.SetupSame t ∧ d.UplinkSame t ∧ t.tariff = d.tariff
      (∀ ref, s.funding = .card ref → ∃ t : Device,
        opened t ((d.slot ref.slot).approved - (d.slot ref.slot).consumed) ∧ t.accounts = d.accounts ∧ d.OthersSame t st) ∧
      (∀ n a, s.funding = .account n → d.account n = some a → (d.ctx st).refillAsked = none →
        ∃ (t : Device) (b : Account), opened t (b.limit - b.spent - b.draws) ∧
          d.DrawReturned t st n a b (j.draw.getD 0)))

/-- R47, R22, R50: the wait timer's end ends a held job FUNDS; the session ends with it if its funding can give no more. R58, R67, R70:
the jam timer's end ends a jammed job ABANDONED, with the notice and with every entry resolved by the jam policy: forgiven, its
charge returned, or charged, its price taken from the funding if it was funded and added to the shortfall if not. Otherwise the
station returns to OPEN with its BALANCE. R94: the draw of an account session's job is returned, the station is off the waiting
list, the list is served, and the BALANCE is the available amount after that. -/
def Obligations.JobTimersRunOut : Prop :=
  ∀ (d : Device) (q : List Instr) (st : Station) (s : Session) (j : Job), d.Works →
    (d.ctx st).session = some s → (d.ctx st).job = some j → (d.ctx st).endPending = none →
    let opened := fun (t : Device) (reason : JobEndReason) (balance : Nat) =>
      (t.ctx st).state = .opened ∧ (t.ctx st).job = none ∧
      (t.ctx st).idleTimer = some d.mgmt.params.idleTime ∧ (t.ctx st).dozeTimer = none ∧ (t.ctx st).waitTimer = none ∧
      (t.ctx st).jamTimer = none ∧ (t.ctx st).endPending = none ∧
      t.port st = ((d.send st (.jobEnd reason)).send st (.balance balance)).port st ∧
      d.OthersSameButMail t st ∧ t.exporting = d.exporting ∧ d.SetupSame t ∧ d.UplinkSame t ∧ t.tariff = d.tariff
    let ended := fun (t : Device) => (t.ctx st).state = .idle ∧ (t.ctx st).session = none ∧ (t.ctx st).job = none ∧
      t.port st = ((d.send st (.jobEnd .funds)).send st (.sessionEnd .fundsEnded)).port st ∧
      t.reports = d.reports ++ [s.report d st .fundsEnded] ∧ d.OthersSameButMail t st
    ((d.ctx st).state = .held → (d.ctx st).waitTimer = some 0 →
      let run := exec (.waitTimerExpiry st) ⟨d, q⟩
      (∀ ref, s.funding = .card ref →
        ((d.slot ref.slot).renewalsRefused = false → ∃ t : Device, run = .next ⟨t, q⟩ ∧
          opened t .funds ((d.slot ref.slot).approved - (d.slot ref.slot).consumed) ∧ (t.ctx st).session = some s ∧
          t.path st = d.path st ∧ d.PaymentsSame t ∧ t.accounts = d.accounts) ∧
        ((d.slot ref.slot).renewalsRefused = true → d.HasRoom st → ∃ t : Device, run = .next ⟨t, q⟩ ∧ ended t)) ∧
      (∀ n a, s.funding = .account n → d.account n = some a → (d.ctx st).refillAsked = none →
        (a.state ≠ .stopped → ∃ (t : Device) (b : Account), run = .next ⟨t, q⟩ ∧
          opened t .funds (b.limit - b.spent - b.draws) ∧ (t.ctx st).session = some s ∧ t.path st = d.path st ∧
          d.PaymentsSame t ∧ d.DrawReturned t st n a b (j.draw.getD 0)) ∧
        (a.state = .stopped → d.HasRoom st → ∃ (t : Device) (b : Account), run = .next ⟨t, q⟩ ∧ ended t ∧
          d.DrawReturned t st n { a with openSessions := a.openSessions - 1 } b (j.draw.getD 0)))) ∧
    ((d.ctx st).state ∈ [StationState.jammed .running, .jammed .held, .jammed .closing] → (d.ctx st).jamTimer = some 0 →
      ((d.path st).map (·.ordinal)).Nodup →
      let charge := d.configs[st].jamPolicy = .charge
      let total := fun (p : PathEntry → Bool) (x : PathEntry → Nat) => (((d.path st).filter p).map x).sum
      let ofClass := fun (c : PriceClass) (e : PathEntry) => e.funded && (priceClass e.size e.colour == c)
      let paid := if charge then total (·.funded) (·.price) else 0
      let resolved := fun (t : Device) => exec (.jamTimerExpiry st) ⟨d, q⟩ = .next ⟨t, q⟩ ∧ t.path st = [] ∧
        t.notices.pending[NoticeClass.jamAbandoned.index] = true ∧
        t.notices.lastStation[NoticeClass.jamAbandoned.index] = some st ∧
        (t.ctx st).meters = { (d.ctx st).meters with deliveredSides := (t.ctx st).meters.deliveredSides } ∧
        (∀ c : PriceClass, (t.ctx st).meters.deliveredSides[c] = (d.ctx st).meters.deliveredSides[c] +
          BitVec.ofNat 32 (if charge then total (fun e => priceClass e.size e.colour == c) (·.sides) else 0)) ∧
        (∃ k, (t.ctx st).session = some k ∧
          (∀ c : PriceClass, k.committedSides[c] = s.committedSides[c] +
            BitVec.ofNat 32 (if charge then total (ofClass c) (·.sides) else 0)) ∧
          k.amountCommitted = s.amountCommitted + BitVec.ofNat 32 paid ∧
          k.shortfallAmount = s.shortfallAmount + BitVec.ofNat 32 (if charge then total (fun e => !e.funded) (·.price) else 0) ∧
          k.shortfallSides = s.shortfallSides + BitVec.ofNat 32 (if charge then total (fun e => !e.funded) (·.sides) else 0) ∧
          k.forgiven = s.forgiven + BitVec.ofNat 32 (if charge then 0 else (d.path st).length) ∧
          k = { s with
            committedSides := k.committedSides, amountCommitted := k.amountCommitted
            shortfallAmount := k.shortfallAmount, shortfallSides := k.shortfallSides, forgiven := k.forgiven })
      (∀ ref, s.funding = .card ref → ∃ t : Device, resolved t ∧
        opened t .abandoned ((d.slot ref.slot).approved - ((d.slot ref.slot).consumed + paid)) ∧
        t.slot ref.slot = { d.slot ref.slot with
          consumed := (d.slot ref.slot).consumed + paid
          provisional := (d.slot ref.slot).provisional - (if charge then paid else total (fun _ => true) (·.provisional)) } ∧
        d.OtherSlotsSame t ref.slot ∧ t.accounts = d.accounts) ∧
      (∀ n a, s.funding = .account n → d.account n = some a → (d.ctx st).refillAsked = none →
        ∃ (t : Device) (b : Account) (live : PeriodRecord), resolved t ∧ opened t .abandoned (b.limit - b.spent - b.draws) ∧
          (∀ c : PriceClass, live.sides[c] = a.live.sides[c] +
            BitVec.ofNat 32 (if charge then total (ofClass c) (·.sides) else 0)) ∧
          live.amount = a.live.amount + BitVec.ofNat 32 paid ∧ live.sessions = a.live.sessions ∧ d.PaymentsSame t ∧
          d.DrawReturned t st n { a with draws := a.draws - paid, spent := a.spent + paid, live := live } b
            (j.draw.getD 0 - paid)))

/-! ### The uplink line (R162 to R169) -/

/-- R166, R167: the uplink carrier is lost: nothing but the port and the CARRIER notice changes, and the transmitter keeps its
frame; it returns: a frame that still stands stays in the transmitter, one that does not is dropped. An AUTH_REQ, RENEW_REQ,
CAPTURE or VOID of a slot stands while its request is OUTSTANDING under the same slot reference, every other frame always. -/
def Obligations.UplinkCarrierIsFollowed : Prop :=
  ∀ (d : Device) (q : List Instr), d.Works →
    (d.uplink.carrier = true →
      exec .uplinkCarrierLoss ⟨d, q⟩ =
        .next ⟨Device.notice { d with
          uplinkDetect := false
          uplink := { carrier := false, receiver := .waiting, transmitter := d.uplink.transmitter } } .carrier none, q⟩) ∧
    (d.uplink.carrier = false →
      let back := fun x => Device.notice { d with
        uplinkDetect := true
        uplink := { carrier := true, receiver := d.uplink.receiver, transmitter := x } } .carrier none
      (d.uplink.transmitter = .free → exec .uplinkCarrierReturn ⟨d, q⟩ = .next ⟨back .free, q⟩) ∧
      (∀ source f, d.uplink.transmitter = .holding source f →
        (d.FrameStillStands f → exec .uplinkCarrierReturn ⟨d, q⟩ = .next ⟨back (.holding source f), q⟩) ∧
        (¬ d.FrameStillStands f → exec .uplinkCarrierReturn ⟨d, q⟩ = .next ⟨back .free, q⟩)))

/-- R111, R114, R123, R146, R160, R164, R175, R195: with the carrier PRESENT and the transmitter FREE the arbiter chooses the ready
source that stands first, and the source builds its frame; otherwise nothing is chosen. -/
def Obligations.ArbiterChoosesFirstReadySource : Prop :=
  ∀ (d : Device) (q : List Instr), d.Works →
    let run := exec .arbiterChoice ⟨d, q⟩
    let holding := fun (x : Device) source frame =>
      (.next ⟨{ x with uplink := { x.uplink with transmitter := .holding source frame } }, q⟩ : Host.Outcome State Fault Refusal)
    let noRequest := d.payQueue = [] ∨ d.mgmt.params.outstandingLimit ≤ d.outstanding
    (d.uplink.carrier = false ∨ d.uplink.transmitter ≠ .free → run = .next ⟨d, q⟩) ∧
    (d.uplink.carrier = true → d.uplink.transmitter = .free →
      (∀ r rest, d.mgmt.replies = r :: rest → run = holding d .reply (.reply r)) ∧
      (d.mgmt.replies = [] →
        (∀ ref rest, d.staleVoids = ref :: rest →
          run = holding { d with staleVoids := rest } .payment (.void none (some ref))) ∧
        (d.staleVoids = [] → noRequest →
          (d.notices.waiting = true →
            run = holding { d with notices := { d.notices with waiting := false } } .notice
              (.notice d.notices.liveSet d.notices.lead d.notices.liveStations)) ∧
          (d.notices.waiting = false →
            (∀ r rest, d.reports = r :: rest → run = holding d .sessionReport (.sessionReport r)) ∧
            (d.reports = [] →
              (∀ i rest, d.serviceUp = i :: rest → run = holding d .serviceUp (.serviceUp i.station i.payload)) ∧
              (d.serviceUp = [] →
                (∀ p n r, d.exporting.frame = some (.bill p n r) → run = holding d .billing (.bill p n r)) ∧
                (∀ p n, d.exporting.frame = some (.finish p n) → run = holding d .billing (.exportEnd p n)) ∧
                (d.exporting.frame = none → run = .next ⟨d, q⟩)))))))

/-- R111, R123: the payment source, chosen with no stale void waiting, sends the head of its queue: the slot's request becomes
OUTSTANDING with its timer at the authorization timeout, the count rises, and the frame is built from the slot as it stands. -/
def Obligations.PaymentRequestIsSent : Prop :=
  ∀ (d : Device) (q : List Instr) (e : QueueEntry) (rest : List QueueEntry) (r : Request), d.Works →
    d.uplink.carrier = true → d.uplink.transmitter = .free → d.mgmt.replies = [] → d.staleVoids = [] →
    d.payQueue = e :: rest → d.outstanding < d.mgmt.params.outstandingLimit → (d.slot e.ref.slot).request = some r →
    let s := d.slot e.ref.slot
    ∃ t frame, exec .arbiterChoice ⟨d, q⟩ = .next ⟨t, q⟩ ∧
      t = { d with
        slots := t.slots, payQueue := rest, outstanding := d.outstanding + 1
        uplink := { d.uplink with transmitter := .holding .payment frame } } ∧
      t.slot e.ref.slot = { s with
        request := some { r with place := .outstanding d.mgmt.params.authTimeout }
        token := if e.kind = .auth then none else s.token } ∧ d.OtherSlotsSame t e.ref.slot ∧
      (∀ tok n, e.kind = .auth → s.token = some tok → s.asked = some n → frame = .authReq e.ref s.owner tok n) ∧
      (e.kind = .renew → r.funds = true →
        frame = .renewReq e.ref s.reference (min (s.approved + d.mgmt.params.renewalIncrement) 16777215)) ∧
      (e.kind = .renew → r.funds = false → frame = .renewReq e.ref s.reference s.approved) ∧
      (e.kind = .capture → frame = .capture e.ref s.reference r.amount) ∧
      (e.kind = .void → frame = .void (some e.ref) s.reference)

/-- R139, R140, R146, R147, R160, R165, R169, R175, R190: the report that the held frame has been sent makes the transmitter FREE and
does the source's work; the last REPLY while restart is taken brings the power-on state (log 15). -/
def Obligations.SentUplinkFrameIsReported : Prop :=
  ∀ (d : Device) (q : List Instr) (frame : UplinkFrame), d.Works → d.uplink.carrier = true →
    let run := exec .uplinkFrameSent ⟨d, q⟩
    let free := { d with uplink := { d.uplink with transmitter := .free } }
    (∀ r rest, d.uplink.transmitter = .holding .reply frame → d.mgmt.replies = r :: rest →
      (d.mgmt.restartTaken = false ∨ rest ≠ [] →
        run = .next ⟨{ free with mgmt := { d.mgmt with replies := rest } }, q⟩) ∧
      (d.mgmt.restartTaken = true → rest = [] →
        run = .next ⟨Device.powerOn d.carrierDetect d.uplinkDetect d.freeCount, q⟩)) ∧
    (d.uplink.transmitter = .holding .payment frame ∨ d.uplink.transmitter = .holding .notice frame →
      run = .next ⟨free, q⟩) ∧
    (∀ r rest, d.uplink.transmitter = .holding .sessionReport frame → d.reports = r :: rest →
      ∃ t : Device, run = .next ⟨t, q⟩ ∧ t = { free with reports := rest, contexts := t.contexts } ∧
        ∀ st, t.ctx st = { d.ctx st with
          roomTold := if (d.ctx st).state = .closing ∧ (d.ctx st).job = none then true else (d.ctx st).roomTold }) ∧
    (∀ i rest, d.uplink.transmitter = .holding .serviceUp frame → d.serviceUp = i :: rest →
      run = .next ⟨{ free with serviceUp := rest }, q⟩) ∧
    (∀ p n r, d.uplink.transmitter = .holding .billing frame → d.exporting.frame = some (.bill p n r) →
      ∃ t : Device, run = .next ⟨t, q⟩ ∧ t = { free with accounts := t.accounts, exporting := t.exporting } ∧
        (∀ a, d.account n = some a → t.account n = some { a with closedRecord := .zero }) ∧
        (∀ m, m ≠ n → t.account m = d.account m) ∧
        t.exporting = { d.exporting with cursor := n, billsSent := d.exporting.billsSent + 1, frame := t.exporting.frame } ∧
        ((∀ a ∈ t.accounts, n < a.number → a.closedRecord = .zero) →
          t.exporting.frame = some (.finish d.exporting.exportedPeriod (d.exporting.billsSent + 1))) ∧
        (∀ before a behind, t.accounts = before ++ a :: behind → n < a.number → a.closedRecord ≠ .zero →
          (∀ b ∈ before, n < b.number → b.closedRecord = .zero) →
          t.exporting.frame = some (.bill d.exporting.exportedPeriod a.number a.closedRecord))) ∧
    (∀ p n, d.uplink.transmitter = .holding .billing frame → d.exporting.frame = some (.finish p n) →
      run = .next ⟨Device.notice { free with
        exporting := { d.exporting with running := false, frame := none } } .exportDone none, q⟩)

/-! ### Results and timers of the payment unit (R112 to R129) -/

/-- R112, R113, R114, R116, R117, R120, R121, R205: an AUTH_RESULT. Matched to an outstanding AUTH it makes the slot ACTIVE (RENEWING
at once if its lifetime is within the renewal margin) or frees it; a late approval is voided; a stale approval joins the
stale-void list, or sets PAYMENT_UNCONFIRMED, unless the slot holds that very reference; a stale decline changes nothing. -/
def Obligations.AuthResultIsTaken : Prop :=
  ∀ (d : Device) (q : List Instr) (i : SlotNo) (generation : Byte) (amount : Amount24) (life : Byte) (ref : Reference),
    d.HearsUplink →
    let h := d.heardUplink
    let s := d.slot i
    let approve := exec (.authResult (BitVec.ofNat 8 i.val) generation amount life (some ref)) ⟨d, q⟩
    let decline := exec (.authResult (BitVec.ofNat 8 i.val) generation amount life none) ⟨d, q⟩
    let seconds := (if life.toNat = 0 then 1 else min life.toNat 240) * 60
    let report := fun k => d.payReports ++ s.owner.toList.map fun st => { kind := k, station := st, ref := d.slotRef i }
    (∀ n f a, s.generation = generation → s.state = .authorizing →
      s.request = some { kind := .auth, place := .outstanding n, funds := f, amount := a } →
      (amount ≠ 0 → ∃ t, approve = .next ⟨t, q⟩ ∧
        t = { h with slots := t.slots, payQueue := t.payQueue, outstanding := d.outstanding - 1, payReports := report .approval } ∧
        d.OtherSlotsSame t i ∧
        (let active := { s with
          state := .active, request := none, reference := some ref, approved := amount.toNat, consumed := 0
          provisional := 0, lifetime := seconds, renewalsRefused := false }
        (d.mgmt.params.renewalMargin < seconds → t.slot i = active ∧ t.payQueue = d.payQueue) ∧
        (seconds ≤ d.mgmt.params.renewalMargin →
          t.slot i = { active with
            state := .renewing, request := some { kind := .renew, place := .queued, funds := false, amount := 0 } } ∧
          t.payQueue = d.payQueue ++ [{ ref := d.slotRef i, kind := .renew }]))) ∧
      (∃ t, decline = .next ⟨t, q⟩ ∧
        t = { h with slots := t.slots, outstanding := d.outstanding - 1, payReports := report .decline } ∧
        t.slot i = Slot.freed s.generation ∧ d.OtherSlotsSame t i) ∧
      (amount = 0 → approve = decline)) ∧
    (s.generation = generation → s.state = .lapsed →
      (amount ≠ 0 → ∃ t, approve = .next ⟨t, q⟩ ∧
        t = { h with slots := t.slots, payQueue := d.payQueue ++ [{ ref := d.slotRef i, kind := .void }] } ∧
        t.slot i = { s with
          state := .voiding, lapseTimer := none, reference := some ref
          request := some { kind := .void, place := .queued, funds := false, amount := 0 } } ∧ d.OtherSlotsSame t i) ∧
      decline = .next ⟨h.modSlot i fun s => Slot.freed s.generation, q⟩) ∧
    (s.generation ≠ generation ∨ s.state ∈ [SlotState.free, .active, .renewing, .expired, .capturing, .voiding] →
      decline = .next ⟨h, q⟩ ∧
      (s.generation = generation → s.reference = some ref → approve = .next ⟨h, q⟩) ∧
      (amount ≠ 0 → s.generation ≠ generation ∨ s.reference ≠ some ref →
        (d.staleVoids.length < 4 → approve = .next ⟨{ h with staleVoids := d.staleVoids ++ [ref] }, q⟩) ∧
        (4 ≤ d.staleVoids.length → approve = .next ⟨h.notice .paymentUnconfirmed none, q⟩)))

/-- R112, R113, R121, R124, R125, R129: the end of an outstanding RENEW. In RENEWING a sufficient approval makes the slot ACTIVE with the
new amount and lifetime, and RENEWING again if that lifetime is within the margin; a refusal, a lower amount or the timeout sets
renewals refused; behind a waiting final request the outcome is discarded and that request is queued. -/
def Obligations.RenewalEnds : Prop :=
  ∀ (d : Device) (q : List Instr) (i : SlotNo) (amount : Amount24) (life : Byte) (n a : Nat) (f : Bool),
    let s := d.slot i
    let result := exec (.renewResult (BitVec.ofNat 8 i.val) s.generation amount life) ⟨d, q⟩
    let timeout := exec (.renewTimeout i) ⟨d, q⟩
    let seconds := (if life.toNat = 0 then 1 else min life.toNat 240) * 60
    let report := fun k => d.payReports ++ (if f then s.owner.toList else []).map fun st =>
      { kind := k, station := st, ref := d.slotRef i }
    let refused := fun (x t : Device) =>
      t = { x with slots := t.slots, outstanding := d.outstanding - 1, payReports := report .renewalRefusal } ∧
      t.slot i = { s with state := .active, request := none, renewalsRefused := true } ∧ d.OtherSlotsSame t i
    let released := fun (x t : Device) (w : FinalRequest) =>
      t = { x with slots := t.slots, outstanding := d.outstanding - 1
                   payQueue := d.payQueue ++ [{ ref := d.slotRef i, kind := w.kind }] } ∧
      t.slot i = { s with
        state := w.slotState, finalWaiting := none
        request := some { kind := w.kind, place := .queued, funds := false, amount := w.amount } } ∧ d.OtherSlotsSame t i
    s.request = some { kind := .renew, place := .outstanding n, funds := f, amount := a } →
    (d.HearsUplink → s.state = .renewing → 0 < amount.toNat → s.approved ≤ amount.toNat →
      ∃ t : Device, result = .next ⟨t, q⟩ ∧
        t = { d.heardUplink with
          slots := t.slots, payQueue := t.payQueue, outstanding := d.outstanding - 1, payReports := report .renewalApproval } ∧
        d.OtherSlotsSame t i ∧
        (d.mgmt.params.renewalMargin < seconds ∨ s.renewalsRefused = true →
          t.slot i = { s with state := .active, request := none, approved := amount.toNat, lifetime := seconds } ∧
          t.payQueue = d.payQueue) ∧
        (seconds ≤ d.mgmt.params.renewalMargin → s.renewalsRefused = false →
          t.slot i = { s with
            state := .renewing, approved := amount.toNat, lifetime := seconds
            request := some { kind := .renew, place := .queued, funds := false, amount := 0 } } ∧
          t.payQueue = d.payQueue ++ [{ ref := d.slotRef i, kind := .renew }])) ∧
    (d.HearsUplink → s.state = .renewing → amount.toNat = 0 ∨ amount.toNat < s.approved →
      ∃ t : Device, result = .next ⟨t, q⟩ ∧ refused d.heardUplink t) ∧
    (d.Works → s.state = .renewing → n = 0 → ∃ t, timeout = .next ⟨t, q⟩ ∧ refused d t) ∧
    (∀ w, d.HearsUplink → s.state = .capturing ∨ s.state = .voiding → s.finalWaiting = some w →
      ∃ t : Device, result = .next ⟨t, q⟩ ∧ released d.heardUplink t w) ∧
    (∀ w, d.Works → n = 0 → s.state = .capturing ∨ s.state = .voiding → s.finalWaiting = some w →
      ∃ t, timeout = .next ⟨t, q⟩ ∧ released d t w)

/-- R112, R113, R128, R205: the result or the timeout of an outstanding CAPTURE or VOID frees the slot; a result other than TAKEN, and a
timeout, set PAYMENT_UNCONFIRMED with the owner station. R113: a result whose slot number is above 31, whose generation is not the
slot's, or for which the slot has no such request outstanding is stale: RENEW_RESULT, CAPTURE_DONE and VOID_DONE then change
nothing. -/
def Obligations.FinalRequestFreesSlot : Prop :=
  (∀ (d : Device) (q : List Instr) (i : SlotNo) (n a : Nat) (f : Bool) (outcome : Byte),
    let s := d.slot i
    let freed := fun (x : Device) => { x.modSlot i (fun s => Slot.freed s.generation) with outstanding := d.outstanding - 1 }
    let number := BitVec.ofNat 8 i.val
    (s.state = .capturing → s.request = some { kind := .capture, place := .outstanding n, funds := f, amount := a } →
      (d.HearsUplink → outcome = 1#8 →
        exec (.captureDone number s.generation outcome) ⟨d, q⟩ = .next ⟨freed d.heardUplink, q⟩) ∧
      (d.HearsUplink → outcome ≠ 1#8 →
        exec (.captureDone number s.generation outcome) ⟨d, q⟩ =
          .next ⟨(freed d.heardUplink).notice .paymentUnconfirmed s.owner, q⟩)) ∧
    (s.state = .voiding → s.request = some { kind := .void, place := .outstanding n, funds := f, amount := a } →
      d.HearsUplink → exec (.voidDone number s.generation) ⟨d, q⟩ = .next ⟨freed d.heardUplink, q⟩) ∧
    (s.request = some { kind := .capture, place := .outstanding 0, funds := f, amount := a } ∨
        s.request = some { kind := .void, place := .outstanding 0, funds := f, amount := a } → d.Works →
      exec (.finalRequestTimeout i) ⟨d, q⟩ = .next ⟨(freed d).notice .paymentUnconfirmed s.owner, q⟩)) ∧
  (∀ (d : Device) (q : List Instr) (number generation life outcome : Byte) (amount : Amount24), d.HearsUplink →
    let none' := fun k => ∀ i : SlotNo, number.toNat = i.val → (d.slot i).generation = generation →
      ∀ n f a, (d.slot i).request ≠ some { kind := k, place := .outstanding n, funds := f, amount := a }
    (none' .renew → exec (.renewResult number generation amount life) ⟨d, q⟩ = .next ⟨d.heardUplink, q⟩) ∧
    (none' .capture → exec (.captureDone number generation outcome) ⟨d, q⟩ = .next ⟨d.heardUplink, q⟩) ∧
    (none' .void → exec (.voidDone number generation) ⟨d, q⟩ = .next ⟨d.heardUplink, q⟩))

/-- R112, R118, R120, R126: the timers of a slot: an outstanding AUTH times out into LAPSED, the lapse timer's end frees the slot, and
the end of a lifetime makes an ACTIVE or RENEWING slot EXPIRED, ends its renewal, and reports it. -/
def Obligations.SlotTimersRunOut : Prop :=
  ∀ (d : Device) (q : List Instr) (i : SlotNo), d.Works →
    let s := d.slot i
    let report := fun k => d.payReports ++ s.owner.toList.map fun st => { kind := k, station := st, ref := d.slotRef i }
    let expired := fun (t : Device) => t.slot i = { s with state := .expired, request := none } ∧ d.OtherSlotsSame t i
    (∀ f a, s.state = .authorizing →
      s.request = some { kind := .auth, place := .outstanding 0, funds := f, amount := a } →
      ∃ t : Device, exec (.authTimeout i) ⟨d, q⟩ = .next ⟨t, q⟩ ∧
        t = { d with slots := t.slots, outstanding := d.outstanding - 1, payReports := report .timeout } ∧
        t.slot i = { s with
          state := .lapsed, request := none, token := none, lapseTimer := some (4 * d.mgmt.params.authTimeout) } ∧
        d.OtherSlotsSame t i) ∧
    (s.state = .lapsed → s.lapseTimer = some 0 →
      exec (.lapseTimerExpiry i) ⟨d, q⟩ = .next ⟨d.modSlot i fun s => Slot.freed s.generation, q⟩) ∧
    (s.state = .active ∨ s.state = .renewing → s.lifetime = 0 →
      (s.request = none →
        ∃ t : Device, exec (.holdExpiry i) ⟨d, q⟩ = .next ⟨t, q⟩ ∧ expired t ∧
          t = { d with slots := t.slots, notices := (d.notice .holdExpired s.owner).notices, payReports := report .expiry }) ∧
      (∀ k f a, s.request = some { kind := k, place := .queued, funds := f, amount := a } →
        ∃ t : Device, exec (.holdExpiry i) ⟨d, q⟩ = .next ⟨t, q⟩ ∧ expired t ∧
          t = { d with
            slots := t.slots, notices := (d.notice .holdExpired s.owner).notices, payReports := report .expiry
            payQueue := d.payQueue.filter fun e => e.ref.slot ≠ i }) ∧
      (∀ k n f a, s.request = some { kind := k, place := .outstanding n, funds := f, amount := a } →
        ∃ t : Device, exec (.holdExpiry i) ⟨d, q⟩ = .next ⟨t, q⟩ ∧ expired t ∧
          t = { d with
            slots := t.slots, notices := (d.notice .holdExpired s.owner).notices, payReports := report .expiry
            outstanding := d.outstanding - 1 }))

/-! ### Reports between the blocks (R16, R19, R21, R41, R45 to R48, R62 to R64, R86, R91, R94) -/

/-- R16, R17, R75, R117, R118: the payment unit's word on a pending slot. In FUNDING with that slot the approval opens a card session,
a decline or timeout declines the card and returns the station to IDLE; in any other state each is disregarded. -/
def Obligations.AuthorizationReportsReachTheStation : Prop :=
  ∀ (d : Device) (q : List Instr) (st : Station) (ref : SlotRef) (rest : List PayReport), d.Works →
    let taken := { d with payReports := rest }
    (d.payReports = { kind := .approval, station := st, ref := ref } :: rest →
      ((d.ctx st).state = .funding ref → ∃ t : Device, exec (.authApprovalReport st) ⟨d, q⟩ = .next ⟨t, q⟩ ∧
        t.ctx st = { d.ctx st with
          state := .opened, dozeTimer := none, idleTimer := some d.mgmt.params.idleTime, waitTimer := none, jamTimer := none
          session := some {
            funding := .card ref, bank := d.tariff.selector, committedSides := Vector.replicate 8 0
            amountCommitted := 0, jobs := 0, spoiled := 0, forgiven := 0, untracked := 0
            shortfallSides := 0, shortfallAmount := 0 } } ∧
        t.tariff = d.tariff.modBank d.tariff.selector (fun b => { b with refCount := b.refCount + 1 }) ∧
        t.port st = ((d.send st .cardAccepted).send st
          (.balance ((d.slot ref.slot).approved - (d.slot ref.slot).consumed))).port st ∧
        t.payReports = rest ∧ t.slots = d.slots ∧ t.payQueue = d.payQueue ∧ t.outstanding = d.outstanding ∧
        t.staleVoids = d.staleVoids ∧ t.path st = d.path st ∧ d.OthersSame t st ∧ d.BooksSame t ∧ d.SetupSame t ∧
        d.UplinkSame t) ∧
      ((d.ctx st).state ≠ .funding ref → exec (.authApprovalReport st) ⟨d, q⟩ = .next ⟨taken, q⟩)) ∧
    (d.payReports = { kind := .decline, station := st, ref := ref } :: rest →
      ((d.ctx st).state = .funding ref →
        exec (.authDeclineReport st) ⟨d, q⟩ = .next ⟨(taken.send st (.cardDeclined .declined)).enterIdle st, q⟩) ∧
      ((d.ctx st).state ≠ .funding ref → exec (.authDeclineReport st) ⟨d, q⟩ = .next ⟨taken, q⟩)) ∧
    (d.payReports = { kind := .timeout, station := st, ref := ref } :: rest →
      ((d.ctx st).state = .funding ref →
        exec (.authTimeoutReport st) ⟨d, q⟩ = .next ⟨(taken.send st (.cardDeclined .timeout)).enterIdle st, q⟩) ∧
      ((d.ctx st).state ≠ .funding ref → exec (.authTimeoutReport st) ⟨d, q⟩ = .next ⟨taken, q⟩))

/-- R45, R46, R48, R63: the payment unit's word on a funds renewal that the present job waits for: an approval that covers one sheet
brings a HELD station to RUNNING with a GO and a jammed one's resume state to RUNNING; one that does not asks another renewal, or
sets funds ended if renewals have been refused. In JAMMED that holds with stop pending too (R61, R63); for a HELD job with stop
pending the station seeks no funds (the model's reading of R45 and R49, log 22). That the HELD station is sent no further
PAUSE(FUNDS) is the model's choice (log 33). A refusal sets funds ended, and ends the job FUNDS if the station is HELD with an
empty path. For a job that waits for none, nothing changes in the station. -/
def Obligations.RenewalReportsReachTheJob : Prop :=
  ∀ (d : Device) (q : List Instr) (st : Station) (s : Session) (j : Job) (ref : SlotRef) (rest : List PayReport), d.Works →
    (d.ctx st).session = some s → s.funding = .card ref → (d.ctx st).job = some j →
    let taken := { d with payReports := rest }
    let side := ((d.tariff.get s.bank).prices[priceClass j.size j.colour]).toNat
    let headroom := (d.slot ref.slot).approved - (d.slot ref.slot).consumed - (d.slot ref.slot).provisional
    let allowance := if side = 0 then 65535 else min (headroom / side) 65535
    (d.payReports = { kind := .renewalApproval, station := st, ref := ref } :: rest →
      (j.fundsRequest ≠ .renew → exec (.renewalApprovalReport st) ⟨d, q⟩ = .next ⟨taken, q⟩) ∧
      (j.fundsRequest = .renew → (d.ctx st).state = .held → j.sides * side ≤ headroom → j.stopPending = false →
        (d.path st).length < 8 →
        exec (.renewalApprovalReport st) ⟨d, q⟩ = .next ⟨((taken.enter st .running).modJob st fun j =>
          { j with fundsRequest := .none, allowance := allowance }).send st (.go allowance), q⟩) ∧
      (j.fundsRequest = .renew → ((d.ctx st).state = .held ∧ j.stopPending = false) ∨ (d.ctx st).state = .jammed .held →
        headroom < j.sides * side → (d.slot ref.slot).state = .active →
        ((d.slot ref.slot).renewalsRefused = true →
          exec (.renewalApprovalReport st) ⟨d, q⟩ = .next ⟨taken.modJob st fun j =>
            { j with fundsRequest := .none, fundsEnded := true }, q⟩) ∧
        ((d.slot ref.slot).renewalsRefused = false → (d.slot ref.slot).approved < 16777215 →
          exec (.renewalApprovalReport st) ⟨d, q⟩ = .next ⟨{ (taken.modSlot ref.slot fun s => { s with
            state := .renewing, request := some { kind := .renew, place := .queued, funds := true, amount := 0 } }) with
              payQueue := d.payQueue ++ [{ ref := d.slotRef ref.slot, kind := .renew }] }, q⟩)) ∧
      (j.fundsRequest = .renew → (d.ctx st).state = .held → headroom < j.sides * side → j.stopPending = true →
        exec (.renewalApprovalReport st) ⟨d, q⟩ = .next ⟨taken.modJob st fun j => { j with fundsRequest := .none }, q⟩) ∧
      (j.fundsRequest = .renew → (d.ctx st).state = .jammed .held → j.sides * side ≤ headroom →
        exec (.renewalApprovalReport st) ⟨d, q⟩ = .next ⟨(taken.modJob st fun j => { j with fundsRequest := .none }).modCtx st
          fun c => { c with state := .jammed .running }, q⟩)) ∧
    (d.payReports = { kind := .renewalRefusal, station := st, ref := ref } :: rest →
      (j.fundsRequest ≠ .renew → exec (.renewalRefusalReport st) ⟨d, q⟩ = .next ⟨taken, q⟩) ∧
      (j.fundsRequest = .renew → (d.ctx st).state = .jammed .held ∨ ((d.ctx st).state = .held ∧ d.path st ≠ []) →
        exec (.renewalRefusalReport st) ⟨d, q⟩ = .next ⟨taken.modJob st fun j =>
          { j with fundsRequest := .none, fundsEnded := true }, q⟩) ∧
      (j.fundsRequest = .renew → (d.ctx st).state = .held → d.path st = [] → (d.ctx st).endPending = none →
        (d.slot ref.slot).renewalsRefused = true → d.HasRoom st →
        ∃ t : Device, exec (.renewalRefusalReport st) ⟨d, q⟩ = .next ⟨t, q⟩ ∧
          (t.ctx st).state = .idle ∧ (t.ctx st).session = none ∧ (t.ctx st).job = none ∧
          t.port st = ((d.send st (.jobEnd .funds)).send st (.sessionEnd .fundsEnded)).port st ∧
          ∃ r, t.reports = d.reports ++ [r] ∧ r.station = st ∧ r.endReason = .fundsEnded))

/-- R19, R21, R51, R64: the loss of a session's funding, by the expiry of its hold or the close of its account. In OPEN the session
ends; in RUNNING and HELD the station is sent PAUSE(FUNDS) and enters CLOSING; with nothing in the path the job ends at once,
COMPLETE if nothing is owed, else STOPPED with stop pending, else FUNDS, and so does the session, the station IDLE with room for
its report and CLOSING without (R22, R50, R94: a hold is captured or voided, a draw returned); in JAMMED the resume state becomes
CLOSING; in CLOSING nothing changes. A reason already recorded is kept. -/
def Obligations.FundingIsLost : Prop :=
  ∀ (d : Device) (q : List Instr) (st : Station) (s : Session), d.Works → (d.ctx st).session = some s →
    let dropped := fun (j : Job) => { j with
      fundsRequest := if j.fundsRequest = .waiting ∨ j.fundsRequest = .renew then .none else j.fundsRequest }
    let drained := fun (c : Instr) (taken t : Device) (j : Job) (r : EndReason) (idle : Bool) =>
      let last := if j.outer = 0 then JobEndReason.complete else if j.stopPending then .stopped else .funds
      let told := (taken.send st (.pause .funds)).send st (.jobEnd last)
      exec c ⟨d, q⟩ = .next ⟨t, q⟩ ∧ (t.ctx st).job = none ∧ t.path st = [] ∧ d.OthersSameButMail t st ∧
        (t.ctx st).meters = { (d.ctx st).meters with
          jobsCompleted := (d.ctx st).meters.jobsCompleted + if j.outer = 0 then 1 else 0 } ∧
        (idle = true → (t.ctx st).state = .idle ∧ (t.ctx st).session = none ∧ (t.ctx st).endPending = none ∧
          t.reports = d.reports ++ [s.report d st r] ∧ t.port st = (told.send st (.sessionEnd r)).port st) ∧
        (idle = false → (t.ctx st).state = .closing ∧ (t.ctx st).session = some s ∧ (t.ctx st).endPending = some r ∧
          t.reports = d.reports ∧ t.port st = told.port st)
    let outcome := fun (c : Instr) (taken : Device) (r : EndReason) =>
      ((d.ctx st).state = .opened → d.HasRoom st → ∃ t : Device, exec c ⟨d, q⟩ = .next ⟨t, q⟩ ∧ taken.SessionClosed t st s r) ∧
      ((d.ctx st).state = .opened → ¬ d.HasRoom st →
        exec c ⟨d, q⟩ = .next ⟨(taken.enter st .closing).modCtx st fun c => { c with endPending := some r }, q⟩) ∧
      (∀ j, (d.ctx st).job = some j → (d.ctx st).state = .running ∨ (d.ctx st).state = .held → d.path st ≠ [] →
        exec c ⟨d, q⟩ = .next ⟨(((taken.send st (.pause .funds)).enter st .closing).modJob st fun j =>
          { dropped j with allowance := 0 }).modCtx st fun c => { c with endPending := some (c.endPending.getD r) }, q⟩) ∧
      (∀ j x, (d.ctx st).job = some j → (d.ctx st).state = .jammed x →
        exec c ⟨d, q⟩ = .next ⟨(taken.modJob st dropped).modCtx st fun c => { c with
          state := .jammed .closing, endPending := some (c.endPending.getD r) }, q⟩) ∧
      ((d.ctx st).state = .closing → exec c ⟨d, q⟩ = .next ⟨taken, q⟩)
    (∀ ref rest, s.funding = .card ref → d.payReports = { kind := .expiry, station := st, ref := ref } :: rest →
      let taken := { d with payReports := rest }
      outcome (.holdExpiryReport st) taken .holdExpired ∧
      (∀ j, (d.ctx st).job = some j → (d.ctx st).state = .running ∨ (d.ctx st).state = .held → d.path st = [] →
        let r := (d.ctx st).endPending.getD .holdExpired
        (r ≠ .carrier → d.HasRoom st → ∃ t : Device, drained (.holdExpiryReport st) taken t j r true ∧
          ((d.slot ref.slot).state = .expired → t.slot ref.slot = (d.slot ref.slot).finalized)) ∧
        (r ≠ .carrier → ¬ d.HasRoom st → ∃ t : Device, drained (.holdExpiryReport st) taken t j r false ∧
          t.slots = d.slots ∧ t.accounts = d.accounts))) ∧
    (∀ n rest, s.funding = .account n → (d.ctx st).accountMail = .closed n :: rest →
      let taken := d.modCtx st fun c => { c with accountMail := rest }
      outcome (.accountCloseReport st) taken .accountClosed ∧
      (∀ j a, (d.ctx st).job = some j → (d.ctx st).state = .running ∨ (d.ctx st).state = .held → d.path st = [] →
        (d.ctx st).refillAsked = none → d.account n = some a →
        let r := (d.ctx st).endPending.getD .accountClosed
        (r ≠ .carrier → d.HasRoom st → ∃ (t : Device) (b : Account), drained (.accountCloseReport st) taken t j r true ∧
          taken.DrawReturned t st n { a with openSessions := a.openSessions - 1 } b (j.draw.getD 0)) ∧
        (r ≠ .carrier → ¬ d.HasRoom st → ∃ (t : Device) (b : Account), drained (.accountCloseReport st) taken t j r false ∧
          taken.DrawReturned t st n a b (j.draw.getD 0))))

/-- R91: the account table takes a refill: REFUSED by a STOPPED or CLOSED account, WAITING at the tail of the list if it is not empty or
the available amount does not cover one sheet, else GRANTED with a draw; the answer goes to the station's context. R41, R49, R62:
the answer reaches the job that asked: in RUNNING it brings a GO, or HELD with PAUSE(FUNDS); in JAMMED it changes the job and the
resume state; with stop pending, or in CLOSING, it sends no frame and moves no state. That the GO follows a GRANTED answer with 8
entries in the path as well is the model's choice (log 23). R48, R94: an answer to a job that has ended reaches no later job: a draw
goes back to its account, whose list is served, and any other answer changes nothing. -/
def Obligations.RefillIsAnsweredAndReachesTheJob : Prop :=
  (∀ (d : Device) (q : List Instr) (st : Station) (n price : Nat) (a : Account), d.Works →
    (d.ctx st).refillAsked = some { number := n, oneSheetPrice := price } → d.account n = some a →
    let available := a.limit - a.spent - a.draws
    let draw := min (max d.mgmt.params.drawSize price) available
    let answered := fun r => d.modCtx st fun c => { c with refillAsked := none, accountMail := c.accountMail ++ [.refill n r] }
    let run := exec (.accountRefill st) ⟨d, q⟩
    (a.state ≠ .active → run = .next ⟨answered .refused, q⟩) ∧
    (a.state = .active → a.waiting ≠ [] ∨ available < price → (∀ w ∈ a.waiting, w.station ≠ st) →
      run = .next ⟨(answered .waiting).modAccount n fun a =>
        { a with waiting := a.waiting ++ [{ station := st, oneSheetPrice := price }] }, q⟩) ∧
    (a.state = .active → a.waiting = [] → price ≤ available →
      run = .next ⟨(answered (.granted draw)).modAccount n fun a => { a with draws := a.draws + draw }, q⟩)) ∧
  (∀ (d : Device) (q : List Instr) (st : Station) (s : Session) (j : Job) (n draw : Nat) (rest : List AccountMail), d.Works →
    (d.ctx st).session = some s → s.funding = .account n → (d.ctx st).job = some j → j.fundsRequest = .refill →
    let taken := d.modCtx st fun c => { c with accountMail := rest }
    let added := j.draw.getD 0 + draw
    let side := ((d.tariff.get s.bank).prices[priceClass j.size j.colour]).toNat
    let headroom := added - ((d.path st).map (·.provisional)).sum
    let allowance := if side = 0 then 65535 else min (headroom / side) 65535
    let run := exec (.refillAnswer st) ⟨d, q⟩
    ((d.ctx st).accountMail = .refill n (.granted draw) :: rest →
      ((d.ctx st).state = .running → j.stopPending = false →
        run = .next ⟨(taken.modJob st fun j => { j with
          draw := some added, fundsRequest := .none, allowance := allowance }).send st (.go allowance), q⟩) ∧
      (j.stopPending = true ∨ (∃ x, (d.ctx st).state = .jammed x) ∨ (d.ctx st).state = .closing →
        run = .next ⟨taken.modJob st fun j => { j with draw := some added, fundsRequest := .none }, q⟩)) ∧
    ((d.ctx st).accountMail = .refill n .waiting :: rest →
      ((d.ctx st).state = .running → j.stopPending = false → d.path st ≠ [] →
        run = .next ⟨((taken.enter st .held).modJob st fun j =>
          { j with fundsRequest := .waiting, allowance := 0 }).send st (.pause .funds), q⟩) ∧
      ((d.ctx st).state = .jammed .running → j.stopPending = false →
        run = .next ⟨(taken.modJob st fun j => { j with fundsRequest := .waiting }).modCtx st fun c =>
          { c with state := .jammed .held }, q⟩) ∧
      ((d.ctx st).refillAsked = none → j.stopPending = true ∨ (d.ctx st).state = .closing →
        run = .next ⟨(taken.modJob st fun j => { j with fundsRequest := .none }).modAccount n fun a =>
          { a with waiting := a.waiting.filter fun w => w.station ≠ st }, q⟩)) ∧
    ((d.ctx st).accountMail = .refill n .refused :: rest →
      ((d.ctx st).state = .running → j.stopPending = false → d.path st ≠ [] →
        run = .next ⟨((taken.enter st .held).modJob st fun j =>
          { j with fundsRequest := .none, fundsEnded := true, allowance := 0 }).send st (.pause .funds), q⟩) ∧
      ((d.ctx st).state = .jammed .running → j.stopPending = false →
        run = .next ⟨(taken.modJob st fun j => { j with fundsRequest := .none, fundsEnded := true }).modCtx st fun c =>
          { c with state := .jammed .held }, q⟩) ∧
      (j.stopPending = true ∨ (d.ctx st).state = .closing →
        run = .next ⟨taken.modJob st fun j => { j with fundsRequest := .none, fundsEnded := true }, q⟩))) ∧
  (∀ (d : Device) (q : List Instr) (st : Station) (n : Nat) (rest : List AccountMail), d.Works →
    let taken := d.modCtx st fun c => { c with accountMail := rest }
    let run := exec (.refillAnswer st) ⟨d, q⟩
    (∀ a draw, (d.ctx st).accountMail = .lateRefill n (.granted draw) :: rest → (d.ctx st).refillAsked = none →
      d.account n = some a → ∃ (t : Device) (b : Account), run = .next ⟨t, q⟩ ∧
        t = { taken with accounts := t.accounts, contexts := t.contexts } ∧
        (∀ x, t.ctx x = { taken.ctx x with accountMail := (t.ctx x).accountMail }) ∧
        taken.ListServed t n { a with draws := a.draws - draw } b (0 < draw)) ∧
    ((d.ctx st).accountMail = .lateRefill n .waiting :: rest ∨ (d.ctx st).accountMail = .lateRefill n .refused :: rest →
      run = .next ⟨taken, q⟩))

/-- R45, R48, R63, R94: a waiting-list grant funds the job that waits for it: a HELD station whose headroom then covers one sheet runs
again; a jammed one's resume state becomes RUNNING. R93: a grant that no job waits for goes back to its account, and the return
serves the account's waiting list. -/
def Obligations.GrantFundsTheWaitingJob : Prop :=
  ∀ (d : Device) (q : List Instr) (st : Station) (n draw : Nat) (rest : List AccountMail), d.Works →
    (d.ctx st).accountMail = .grant n draw :: rest →
    let taken := d.modCtx st fun c => { c with accountMail := rest }
    let run := exec (.waitingListGrant st) ⟨d, q⟩
    (∀ s j, (d.ctx st).session = some s → s.funding = .account n → (d.ctx st).job = some j → j.fundsRequest = .waiting →
      let added := j.draw.getD 0 + draw
      let side := ((d.tariff.get s.bank).prices[priceClass j.size j.colour]).toNat
      let headroom := added - ((d.path st).map (·.provisional)).sum
      let allowance := if side = 0 then 65535 else min (headroom / side) 65535
      j.sides * side ≤ headroom →
      ((d.ctx st).state = .held → j.stopPending = false → (d.path st).length < 8 →
        run = .next ⟨((taken.enter st .running).modJob st fun j => { j with
          draw := some added, fundsRequest := .none, allowance := allowance }).send st (.go allowance), q⟩) ∧
      ((d.ctx st).state = .jammed .held →
        run = .next ⟨(taken.modJob st fun j => { j with draw := some added, fundsRequest := .none }).modCtx st fun c =>
          { c with state := .jammed .running }, q⟩)) ∧
    (∀ a, (d.ctx st).requested .waiting = false → (d.ctx st).refillAsked = none → d.account n = some a →
      ∃ (t : Device) (b : Account), run = .next ⟨t, q⟩ ∧
        t = { taken with accounts := t.accounts, contexts := t.contexts } ∧
        (∀ x, t.ctx x = { taken.ctx x with accountMail := (t.ctx x).accountMail }) ∧
        taken.ListServed t n { a with draws := a.draws - draw } b (0 < draw))

/-! ### Management requests (R173, R178 and the rules of the owners) -/

/-- R173, R174, R176, R178: a request is checked before its owner sees it. A kind that is not one of the twenty is answered UNKNOWN; a
kind with parameters of another length, or a station number above 15, BAD_VALUE; nothing else changes. R105, R131, R182 to R186:
the reading requests change nothing, and carry the record named as it stands. That CONFIG_GET reads its four owners at one moment is
the model's choice (log 27): R182 lets other events come between the readings. -/
def Obligations.RequestsCheckedOrReadChangeNothing : Prop :=
  (∀ (d : Device) (q : List Instr) (r : MgmtRequest) (rest : List MgmtRequest), d.Takes r rest →
    let answer := fun status => .next ⟨(d.taken rest).reply r.tag status .none, q⟩
    (r.kind ∉ [0x01#8, 0x02#8, 0x03#8, 0x04#8, 0x05#8, 0x08#8, 0x09#8, 0x0C#8, 0x0D#8, 0x10#8, 0x11#8, 0x12#8, 0x13#8, 0x14#8,
        0x15#8, 0x18#8, 0x1C#8, 0x1E#8, 0x1F#8, 0x7F#8] →
      exec .unknownRequest ⟨d, q⟩ = answer .unknown) ∧
    (∀ c ∈ [(Instr.accountPut, 0x01#8, 13), (.accountDelete, 0x02#8, 3), (.accountGet, 0x03#8, 4), (.accountState, 0x04#8, 4),
        (.accountCredit, 0x05#8, 6), (.tariffLoad, 0x08#8, 17), (.tariffSelect, 0x09#8, 1), (.configSet, 0x0C#8, 3),
        (.configGet, 0x0D#8, 0), (.stationGet, 0x10#8, 2), (.stationConfig, 0x11#8, 4), (.stationService, 0x12#8, 2),
        (.stationReset, 0x13#8, 1), (.stationWake, 0x14#8, 1), (.stationClear, 0x15#8, 1), (.holdGet, 0x18#8, 1),
        (.periodClose, 0x1C#8, 0), (.noticeEnable, 0x1E#8, 2), (.noticeClear, 0x1F#8, 2), (.restart, 0x7F#8, 0)],
      r.kind = c.2.1 → r.params.length ≠ c.2.2 → exec c.1 ⟨d, q⟩ = answer .badValue) ∧
    (∀ c ∈ [(Instr.stationGet, 0x10#8, 2), (.stationConfig, 0x11#8, 4), (.stationService, 0x12#8, 2), (.stationReset, 0x13#8, 1),
        (.stationWake, 0x14#8, 1), (.stationClear, 0x15#8, 1)],
      ∀ number more, r.kind = c.2.1 → r.params = number :: more → r.params.length = c.2.2 → 15 < number.toNat →
        exec c.1 ⟨d, q⟩ = answer .badValue)) ∧
  (∀ (d : Device) (q : List Instr) (tag : Half) (rest : List MgmtRequest),
    let reads := fun c status data => exec c ⟨d, q⟩ = .next ⟨(d.taken rest).reply tag status data, q⟩
    (d.Takes { tag := tag, kind := 0x0D#8, params := [] } rest → reads .configGet .ok (.config {
      params := d.mgmt.params, tariff := d.tariff, accounts := d.accounts.length, exporting := d.exporting.view
      reports := d.reports.length, reportsOf := Vector.ofFn fun st => d.reports.countP fun r => r.station == st
      notices := d.notices })) ∧
    (∀ (st : Station) (code : Byte),
      d.Takes { tag := tag, kind := 0x10#8, params := [BitVec.ofNat 8 st.val, code] } rest →
      (code = 0#8 → reads .stationGet .ok (.state {
        station := st, state := (d.ctx st).state, endPending := (d.ctx st).endPending
        sessionPresent := (d.ctx st).session.isSome, jobPresent := (d.ctx st).job.isSome
        timer := (d.ctx st).runningTimer, faults := (d.ctx st).faults, carrier := (d.port st).carrier
        config := d.configs[st] })) ∧
      (code = 1#8 → reads .stationGet .ok (.session st (d.ctx st).session)) ∧
      (code = 2#8 → reads .stationGet .ok (.job st (d.ctx st).job)) ∧
      (code = 3#8 → reads .stationGet .ok (.path st (d.path st))) ∧
      (code = 4#8 → reads .stationGet .ok (.meters st (d.ctx st).meters)) ∧
      (4 < code.toNat → reads .stationGet .badValue .none)) ∧
    (∀ slot : Byte, d.Takes { tag := tag, kind := 0x18#8, params := [slot] } rest →
      (31 < slot.toNat → reads .holdGet .badValue .none) ∧
      (∀ i : SlotNo, slot.toNat = i.val →
        let s := d.slot i
        reads .holdGet .ok (.hold {
          number := i, generation := s.generation, state := s.state, owner := s.owner, reference := s.reference
          asked := s.asked, approved := s.approved, consumed := s.consumed, provisional := s.provisional
          lifetime := s.lifetime, renewalsRefused := s.renewalsRefused
          request := s.request.map fun r => (r.kind, r.place != .queued, r.funds), finalWaiting := s.finalWaiting
          outstanding := d.outstanding, queueLength := d.payQueue.length, staleVoids := d.staleVoids.length }))) ∧
    (∀ (number : Amount24) (b2 b1 b0 part : Byte), number = b2 ++ b1 ++ b0 →
      d.Takes { tag := tag, kind := 0x03#8, params := [b2, b1, b0, part] } rest →
      (2 < part.toNat → reads .accountGet .badValue .none) ∧
      (part.toNat ≤ 2 → d.account number.toNat = none → reads .accountGet .notFound .none) ∧
      (∀ a, d.account number.toNat = some a →
        (part = 0#8 → reads .accountGet .ok (.entry {
          number := a.number, pin := a.pin, limit := a.limit, spent := a.spent, draws := a.draws
          available := a.limit - a.spent - a.draws, state := a.state, pinFailures := a.pinFailures
          colourPermitted := a.colourPermitted, maxSize := a.maxSize, openSessions := a.openSessions
          waiting := a.waiting.map (·.station) })) ∧
        (part = 1#8 → reads .accountGet .ok (.period a.number 1#8 a.live)) ∧
        (part = 2#8 → reads .accountGet .ok (.period a.number 2#8 a.closedRecord)))))

/-- R83, R101, R102, R104, R105: ACCOUNT_PUT inserts a new entry or updates one, ACCOUNT_DELETE removes one; each refusal changes
nothing. R93: an update that raises the limit of an OPEN account serves its waiting list. -/
def Obligations.AccountEntriesArePutAndDeleted : Prop :=
  ∀ (d : Device) (q : List Instr) (tag : Half) (rest : List MgmtRequest) (number limit spent : Amount24) (pin : Half)
    (colour size : Byte) (b2 b1 b0 p1 p0 l2 l1 l0 s2 s1 s0 : Byte),
    number = b2 ++ b1 ++ b0 → pin = p1 ++ p0 → limit = l2 ++ l1 ++ l0 → spent = s2 ++ s1 ++ s0 →
    let n := number.toNat
    let put : MgmtRequest :=
      { tag := tag, kind := 0x01#8, params := [b2, b1, b0, p1, p0, l2, l1, l0, s2, s1, s0, colour, size] }
    let delete : MgmtRequest := { tag := tag, kind := 0x02#8, params := [b2, b1, b0] }
    let refuse := fun status data => .next ⟨(d.taken rest).reply tag status data, q⟩
    let summary := fun (a : Account) => ReplyData.summary {
      number := a.number, state := a.state, limit := a.limit, spent := a.spent, draws := a.draws
      available := a.limit - a.spent - a.draws, openSessions := a.openSessions, waitingLength := a.waiting.length }
    (d.Takes put rest →
      (d.account n = none →
        (n = 0 ∨ 3 < size.toNat ∨ limit.toNat < spent.toNat → exec .accountPut ⟨d, q⟩ = refuse .badValue .none) ∧
        (n ≠ 0 → size.toNat ≤ 3 → spent.toNat ≤ limit.toNat →
          (512 ≤ d.accounts.length → exec .accountPut ⟨d, q⟩ = refuse .full .none) ∧
          (∀ z : SizeClass, z.val = size.toNat → d.accounts.length < 512 →
            let entry : Account := {
              number := n, pin := pin, limit := limit.toNat, spent := spent.toNat, draws := 0, state := .active
              pinFailures := 0, colourPermitted := colour != 0#8, maxSize := z, openSessions := 0, waiting := []
              live := .zero, closedRecord := .zero }
            ∃ before behind, d.accounts = before ++ behind ∧ (∀ a ∈ before, a.number ≤ n) ∧
              (∀ a, behind.head? = some a → n < a.number) ∧
              exec .accountPut ⟨d, q⟩ = .next ⟨({ d.taken rest with accounts := before ++ entry :: behind }).reply tag .ok
                (summary entry), q⟩))) ∧
      (∀ a, d.account n = some a → a.number = n →
        (a.state = .closed → exec .accountPut ⟨d, q⟩ = refuse .closed (summary a)) ∧
        (a.state ≠ .closed → 3 < size.toNat ∨ limit.toNat < a.spent + a.draws →
          exec .accountPut ⟨d, q⟩ = refuse .badValue (summary a)) ∧
        (∀ z : SizeClass, a.state ≠ .closed → z.val = size.toNat → a.spent + a.draws ≤ limit.toNat →
          let updated := { a with pin := pin, limit := limit.toNat, colourPermitted := colour != 0#8, maxSize := z }
          ∃ (t : Device) (b : Account), exec .accountPut ⟨d, q⟩ = .next ⟨t.reply tag .ok (summary b), q⟩ ∧
            t = { d.taken rest with accounts := t.accounts, contexts := t.contexts } ∧
            (∀ x, t.ctx x = { d.ctx x with accountMail := (t.ctx x).accountMail }) ∧
            d.ListServed t n updated b (a.limit < limit.toNat)))) ∧
    (d.Takes delete rest →
      (d.account n = none → exec .accountDelete ⟨d, q⟩ = refuse .notFound .none) ∧
      (∀ a, d.account n = some a →
        (a.openSessions ≠ 0 ∨ a.closedRecord ≠ .zero → exec .accountDelete ⟨d, q⟩ = refuse .inUse .none) ∧
        (a.openSessions = 0 → a.closedRecord = .zero →
          exec .accountDelete ⟨d, q⟩ =
            .next ⟨({ d.taken rest with accounts := d.accounts.filter fun a => a.number ≠ n }).reply tag .ok .none, q⟩)))

/-- R97 to R100, R105, R178: ACCOUNT_STATE moves an entry between its states: STOP, START and CLOSE. A close empties the waiting list and
reports to every station whose session the account funds. R93, R99: a START that takes an account from STOPPED to OPEN serves its
waiting list. R93, R103, R105: ACCOUNT_CREDIT lowers the spent amount; a credit above 0 serves an OPEN account's waiting list. -/
def Obligations.AccountStateAndCreditAreTaken : Prop :=
  (∀ (d : Device) (q : List Instr) (tag : Half) (rest : List MgmtRequest) (number : Amount24) (b2 b1 b0 v : Byte),
    number = b2 ++ b1 ++ b0 → d.Takes { tag := tag, kind := 0x04#8, params := [b2, b1, b0, v] } rest →
    let n := number.toNat
    let run := exec .accountState ⟨d, q⟩
    let summary := fun (a : Account) => ReplyData.summary {
      number := a.number, state := a.state, limit := a.limit, spent := a.spent, draws := a.draws
      available := a.limit - a.spent - a.draws, openSessions := a.openSessions, waitingLength := a.waiting.length }
    let becomes := fun (b : Account) => ∃ t : Device, run = .next ⟨t.reply tag .ok (summary b), q⟩ ∧
      t = { d.taken rest with accounts := t.accounts, contexts := t.contexts } ∧ t.account n = some b ∧
      (∀ m, m ≠ n → t.account m = d.account m) ∧
      ∀ st, t.ctx st = { d.ctx st with accountMail := (t.ctx st).accountMail } ∧
        (t.ctx st).accountMail = (d.ctx st).accountMail ++
          (if v = 3#8 ∧ (d.ctx st).fundedBy n = true then [.closed n] else [])
    (v ≠ 1#8 → v ≠ 2#8 → v ≠ 3#8 → run = .next ⟨(d.taken rest).reply tag .badValue .none, q⟩) ∧
    (v = 1#8 ∨ v = 2#8 ∨ v = 3#8 → d.account n = none → run = .next ⟨(d.taken rest).reply tag .notFound .none, q⟩) ∧
    (∀ a, d.account n = some a → a.number = n →
      (v = 1#8 → a.state = .active → becomes { a with state := .stopped }) ∧
      (v = 1#8 → a.state = .stopped → run = .next ⟨(d.taken rest).reply tag .ok (summary a), q⟩) ∧
      (v = 2#8 → a.state = .active → becomes { a with pinFailures := 0 }) ∧
      (v = 2#8 → a.state = .stopped → ∃ (t : Device) (b : Account), run = .next ⟨t.reply tag .ok (summary b), q⟩ ∧
        t = { d.taken rest with accounts := t.accounts, contexts := t.contexts } ∧
        (∀ x, t.ctx x = { d.ctx x with accountMail := (t.ctx x).accountMail }) ∧
        d.ListServed t n { a with state := .active, pinFailures := 0 } b True) ∧
      (v = 1#8 ∨ v = 2#8 → a.state = .closed → run = .next ⟨(d.taken rest).reply tag .closed (summary a), q⟩) ∧
      (v = 3#8 → a.state ≠ .closed → becomes { a with state := .closed, waiting := [] }) ∧
      (v = 3#8 → a.state = .closed → run = .next ⟨(d.taken rest).reply tag .ok (summary a), q⟩))) ∧
  (∀ (d : Device) (q : List Instr) (tag : Half) (rest : List MgmtRequest) (number amount : Amount24)
    (b2 b1 b0 c2 c1 c0 : Byte), number = b2 ++ b1 ++ b0 → amount = c2 ++ c1 ++ c0 →
    d.Takes { tag := tag, kind := 0x05#8, params := [b2, b1, b0, c2, c1, c0] } rest →
    let n := number.toNat
    let run := exec .accountCredit ⟨d, q⟩
    let summary := fun (a : Account) => ReplyData.summary {
      number := a.number, state := a.state, limit := a.limit, spent := a.spent, draws := a.draws
      available := a.limit - a.spent - a.draws, openSessions := a.openSessions, waitingLength := a.waiting.length }
    (d.account n = none → run = .next ⟨(d.taken rest).reply tag .notFound .none, q⟩) ∧
    (∀ a, d.account n = some a → a.spent < amount.toNat →
      run = .next ⟨(d.taken rest).reply tag .badValue (summary a), q⟩) ∧
    (∀ a, d.account n = some a → a.number = n → amount.toNat ≤ a.spent →
      ∃ (t : Device) (b : Account), run = .next ⟨t.reply tag .ok (summary b), q⟩ ∧
        t = { d.taken rest with accounts := t.accounts, contexts := t.contexts } ∧
        (∀ x, t.ctx x = { d.ctx x with accountMail := (t.ctx x).accountMail }) ∧
        d.ListServed t n { a with spent := a.spent - amount.toNat } b (0 < amount.toNat)))

/-- R77, R80: TARIFF_LOAD replaces the prices of a bank that no session is bound to and makes it LOADED; each reply carries the tariff
unit's state. -/
def Obligations.TariffLoadReplacesUnboundBank : Prop :=
  ∀ (d : Device) (q : List Instr) (tag : Half) (rest : List MgmtRequest) (b : Byte) (prices : List Byte),
    prices.length = 16 → d.Takes { tag := tag, kind := 0x08#8, params := b :: prices } rest →
    let run := exec .tariffLoad ⟨d, q⟩
    let tariff := fun (t : Tariff) => ReplyData.tariff {
      selector := t.selector, loadedA := t.bankA.loaded, countA := t.bankA.refCount
      loadedB := t.bankB.loaded, countB := t.bankB.refCount }
    let refuse := fun status => .next ⟨(d.taken rest).reply tag status (tariff d.tariff), q⟩
    (2 ≤ b.toNat → run = refuse .badValue) ∧
    (∀ name : BankName, b.toNat = (if name = .bankA then 0 else 1) →
      (0 < (d.tariff.get name).refCount → run = refuse .inUse) ∧
      ((d.tariff.get name).refCount = 0 → ∃ t : Tariff,
        run = .next ⟨({ d.taken rest with tariff := t }).reply tag .ok (tariff t), q⟩ ∧ t.selector = d.tariff.selector ∧
        (t.get name).loaded = true ∧ (t.get name).refCount = 0 ∧
        (∀ c : Fin 8, (t.get name).prices[c] = prices.getD (2 * c.val) 0 ++ prices.getD (2 * c.val + 1) 0) ∧
        ∀ other, other ≠ name → t.get other = d.tariff.get other))

/-- R78: TARIFF_SELECT names a bank: an unknown or EMPTY one is refused BAD_VALUE, a LOADED one becomes the selected bank; the reply
carries the tariff unit's state (R80). -/
def Obligations.TariffSelectNamesLoadedBank : Prop :=
  ∀ (d : Device) (q : List Instr) (tag : Half) (rest : List MgmtRequest) (b : Byte),
    d.Takes { tag := tag, kind := 0x09#8, params := [b] } rest →
    let run := exec .tariffSelect ⟨d, q⟩
    let tariff := fun (t : Tariff) => ReplyData.tariff {
      selector := t.selector, loadedA := t.bankA.loaded, countA := t.bankA.refCount
      loadedB := t.bankB.loaded, countB := t.bankB.refCount }
    (2 ≤ b.toNat → run = .next ⟨(d.taken rest).reply tag .badValue (tariff d.tariff), q⟩) ∧
    (∀ name : BankName, b.toNat = (if name = .bankA then 0 else 1) →
      ((d.tariff.get name).loaded = false → run = .next ⟨(d.taken rest).reply tag .badValue (tariff d.tariff), q⟩) ∧
      ((d.tariff.get name).loaded = true →
        run = .next ⟨({ d.taken rest with tariff := { d.tariff with selector := name } }).reply tag .ok
          (tariff { d.tariff with selector := name }), q⟩))

/-- R112, R179, R180: CONFIG_SET gives a parameter a value of its range; the outstanding limit does not go below the outstanding
count. The reply carries the parameter's value after the request. -/
def Obligations.ConfigSetKeepsRanges : Prop :=
  ∀ (d : Device) (q : List Instr) (tag : Half) (rest : List MgmtRequest) (code v1 v0 : Byte),
    d.Takes { tag := tag, kind := 0x0C#8, params := [code, v1, v0] } rest →
    let v := (v1 ++ v0 : BitVec 16).toNat
    let run := exec .configSet ⟨d, q⟩
    (code.toNat = 0 ∨ 10 < code.toNat → run = .next ⟨(d.taken rest).reply tag .badValue .none, q⟩) ∧
    (∀ row ∈ [(1, ParamName.drawSize, 10, 5000), (2, .cardHold, 100, 50000), (3, .renewalIncrement, 100, 50000),
        (4, .renewalMargin, 30, 600), (5, .authTimeout, 5, 120), (6, .outstandingLimit, 1, 8), (7, .idleTime, 10, 600),
        (8, .dozeTime, 0, 120), (9, .jamTime, 1, 60), (10, .pinFailureLimit, 1, 15)],
      code.toNat = row.1 →
      (v < row.2.2.1 ∨ row.2.2.2 < v →
        run = .next ⟨(d.taken rest).reply tag .badValue (.param code (d.mgmt.params.get row.2.1)), q⟩) ∧
      (row.2.2.1 ≤ v → v ≤ row.2.2.2 → row.2.1 = .outstandingLimit → v < d.outstanding →
        run = .next ⟨(d.taken rest).reply tag .busy (.param code (d.mgmt.params.get row.2.1)), q⟩) ∧
      (row.2.2.1 ≤ v → v ≤ row.2.2.2 → row.2.1 ≠ .outstandingLimit ∨ d.outstanding ≤ v →
        ∃ p : Params, p.get row.2.1 = v ∧ (∀ other, other ≠ row.2.1 → p.get other = d.mgmt.params.get other) ∧
          run = .next ⟨({ d with mgmt := { d.mgmt with input := rest, params := p } }).reply tag .ok (.param code v), q⟩))

/-- R13: STATION_WAKE: a station in DOZE is sent WAKE and enters IDLE; in any other state nothing changes; a station number above 15
is BAD_VALUE. The reply carries the STATE view as it then stands (R187). -/
def Obligations.StationWakeWakesFromDoze : Prop :=
  ∀ (d : Device) (q : List Instr) (tag : Half) (rest : List MgmtRequest) (number : Byte),
    d.Takes { tag := tag, kind := 0x14#8, params := [number] } rest →
    let answered := fun (st : Station) (t : Device) => .next ⟨t.reply tag .ok (.state (t.stateView st)), q⟩
    (15 < number.toNat → exec .stationWake ⟨d, q⟩ = .next ⟨(d.taken rest).reply tag .badValue .none, q⟩) ∧
    (∀ st : Station, number.toNat = st.val →
      ((d.ctx st).state = .doze →
        exec .stationWake ⟨d, q⟩ = answered st ((((d.taken rest).send st .wake).enter st .idle).modCtx st fun c =>
          { c with dozeTimer := if d.mgmt.params.dozeTime = 0 then none else some (d.mgmt.params.dozeTime * 60) })) ∧
      ((d.ctx st).state ≠ .doze → exec .stationWake ⟨d, q⟩ = answered st (d.taken rest)))

/-- R25, R156, R187: STATION_CLEAR clears the five sticky faults; STATION_CONFIG replaces policy, filter and wake mask. -/
def Obligations.StationIsClearedAndConfigured : Prop :=
  ∀ (d : Device) (q : List Instr) (tag : Half) (rest : List MgmtRequest) (st : Station),
    let number := BitVec.ofNat 8 st.val
    let answered := fun (t : Device) => .next ⟨t.reply tag .ok (.state (t.stateView st)), q⟩
    (d.Takes { tag := tag, kind := 0x15#8, params := [number] } rest →
      exec .stationClear ⟨d, q⟩ = answered ((d.taken rest).modCtx st fun c => { c with
        faults := { linkError := false, protocol := false, pathFull := false, uplinkDrop := false, shortfall := false } })) ∧
    (∀ policy filter mask : Byte, d.Takes { tag := tag, kind := 0x11#8, params := [number, policy, filter, mask] } rest →
      (1 < policy.toNat ∨ 1 < filter.toNat ∨ 7 < mask.toNat →
        exec .stationConfig ⟨d, q⟩ = .next ⟨(d.taken rest).reply tag .badValue (.stationConfig st d.configs[st]), q⟩) ∧
      (policy.toNat ≤ 1 → filter.toNat ≤ 1 → mask.toNat ≤ 7 →
        let config : StationConfig := {
          inService := d.configs[st].inService, jamPolicy := if policy = 0#8 then .charge else .forgive
          forward := if filter = 0#8 then .pass else .block
          wakeMask := { card := mask.getLsbD 0, keyin := mask.getLsbD 1, engineOther := mask.getLsbD 2 } }
        exec .stationConfig ⟨d, q⟩ =
          .next ⟨({ d.taken rest with configs := d.configs.set st config }).reply tag .ok (.stationConfig st config), q⟩))

/-- R8, R9, R10, R24, R187: STATION_SERVICE and STATION_RESET. A station with nothing to tear down goes at once to the state its carrier
and its in-service flag give, one in DOZE after a WAKE if it is reset. In FUNDING the pending slot is abandoned (R119) and the card
declined OUT_OF_SERVICE. A session is torn down: job and path are gone, JOB_END(LOST) is sent if there was a job, and END, and the
report is placed with the reason OUT_OF_SERVICE or RESET, or dropped with UPLINK_DROP. R8: STATION_SERVICE on takes an
OFFLINE(service) station whose carrier is PRESENT to IDLE; in any other state the station's state is unchanged. -/
def Obligations.StationIsServicedAndReset : Prop :=
  ∀ (d : Device) (q : List Instr) (tag : Half) (rest : List MgmtRequest) (st : Station),
    let number := BitVec.ofNat 8 st.val
    let answered := fun (t : Device) => .next ⟨t.reply tag .ok (.state (t.stateView st)), q⟩
    let base := d.taken rest
    let serviced := fun (b : Bool) => { base with configs := d.configs.set st { d.configs[st] with inService := b } }
    let idled := fun (x : Device) => (x.enter st .idle).modCtx st fun c => { c with
      dozeTimer := if d.mgmt.params.dozeTime = 0 then none else some (d.mgmt.params.dozeTime * 60) }
    let settles := fun (x : Device) =>
      if (d.port st).carrier then (if d.configs[st].inService then idled x else x.enter st (.offline .service))
      else x.enter st (.offline .carrier)
    let settled := if (d.port st).carrier then (if d.configs[st].inService then StationState.idle else .offline .service)
      else .offline .carrier
    let abandoned := fun (x t : Device) (ref : SlotRef) (state : StationState) =>
      (t.ctx st).state = state ∧ (t.ctx st).session = (d.ctx st).session ∧ (t.ctx st).job = (d.ctx st).job ∧
      t.port st = (d.send st (.cardDeclined .outOfService)).port st ∧ d.SlotAbandoned t ref ∧ d.OthersSame t st ∧
      t.path st = d.path st ∧ d.BooksSame t ∧ d.UplinkSame t ∧ t.tariff = d.tariff ∧ t.configs = x.configs ∧ t.mgmt = base.mgmt
    let tornDown := fun (x t : Device) (state : StationState) (r : EndReason) =>
      (t.ctx st).state = state ∧ (t.ctx st).session = none ∧ (t.ctx st).job = none ∧ (t.ctx st).endPending = none ∧
      (t.ctx st).idleTimer = none ∧ (t.ctx st).waitTimer = none ∧ (t.ctx st).jamTimer = none ∧ t.path st = [] ∧
      t.port st = ((if (d.ctx st).job = none then d else d.send st (.jobEnd .lost)).send st (.sessionEnd r)).port st ∧
      (d.HasRoom st → ∃ x, t.reports = d.reports ++ [x] ∧ x.station = st ∧ x.endReason = r) ∧
      (¬ d.HasRoom st → t.reports = d.reports ∧ (t.ctx st).faults.uplinkDrop = true) ∧
      d.OthersSameButMail t st ∧ t.configs = x.configs ∧ t.mgmt = base.mgmt ∧ t.uplink = d.uplink ∧ t.exporting = d.exporting
    let sessionStands := (d.ctx st).session ≠ none ∧ ((d.ctx st).state = .opened → (d.ctx st).job = none) ∧
      (d.ctx st).state ∈ [StationState.opened, .running, .held, .closing, .jammed .running, .jammed .held, .jammed .closing]
    (d.Takes { tag := tag, kind := 0x12#8, params := [number, 0#8] } rest →
      ((d.ctx st).state = .idle ∨ (d.ctx st).state = .doze →
        exec .stationService ⟨d, q⟩ = answered ((serviced false).enter st (.offline .service))) ∧
      (∀ r, (d.ctx st).state = .offline r → exec .stationService ⟨d, q⟩ = answered (serviced false)) ∧
      (∀ ref, (d.ctx st).state = .funding ref → ∃ t : Device, exec .stationService ⟨d, q⟩ = answered t ∧
        abandoned (serviced false) t ref (.offline .service)) ∧
      (sessionStands → ∃ t : Device, exec .stationService ⟨d, q⟩ = answered t ∧
        tornDown (serviced false) t (.offline .service) .outOfService)) ∧
    (d.Takes { tag := tag, kind := 0x12#8, params := [number, 1#8] } rest →
      ((d.ctx st).state = .offline .service → (d.port st).carrier = true →
        exec .stationService ⟨d, q⟩ = answered (idled (serviced true))) ∧
      ((d.ctx st).state = .offline .service → (d.port st).carrier = false →
        exec .stationService ⟨d, q⟩ = answered (serviced true)) ∧
      ((d.ctx st).state ≠ .offline .service → exec .stationService ⟨d, q⟩ = answered (serviced true))) ∧
    (∀ v : Byte, 1 < v.toNat → d.Takes { tag := tag, kind := 0x12#8, params := [number, v] } rest →
      exec .stationService ⟨d, q⟩ = .next ⟨base.reply tag .badValue .none, q⟩) ∧
    (d.Takes { tag := tag, kind := 0x13#8, params := [number] } rest →
      ((d.ctx st).state = .doze → exec .stationReset ⟨d, q⟩ = answered (settles (base.send st .wake))) ∧
      ((d.ctx st).state = .idle ∨ (∃ r, (d.ctx st).state = .offline r) →
        exec .stationReset ⟨d, q⟩ = answered (settles base)) ∧
      (∀ ref, (d.ctx st).state = .funding ref → ∃ t : Device, exec .stationReset ⟨d, q⟩ = answered t ∧
        abandoned base t ref settled) ∧
      (sessionStands → ∃ t : Device, exec .stationReset ⟨d, q⟩ = answered t ∧ tornDown base t settled .reset))

/-- R135, R137, R138, R140: PERIOD_CLOSE while an export runs is BUSY; else every LIVE record becomes the CLOSED record, the period
rises, and the walk builds its first frame. -/
def Obligations.PeriodCloseStartsTheExport : Prop :=
  ∀ (d : Device) (q : List Instr) (tag : Half) (rest : List MgmtRequest),
    d.Takes { tag := tag, kind := 0x1C#8, params := [] } rest →
    let run := exec .periodClose ⟨d, q⟩
    let view := fun (e : Exporting) => ReplyData.exporting {
      period := e.period, exportedPeriod := e.exportedPeriod, running := e.running, cursor := e.cursor
      billsExpected := e.billsExpected, billsSent := e.billsSent }
    (d.exporting.running = true → run = .next ⟨(d.taken rest).reply tag .busy (view d.exporting), q⟩) ∧
    (d.exporting.running = false →
      let turned := d.accounts.map fun a => { a with closedRecord := a.live, live := .zero }
      let started := fun f : ExportFrame => ({
        period := d.exporting.period + 1, running := true, exportedPeriod := d.exporting.period, cursor := 0
        billsExpected := turned.countP fun a => a.closedRecord != .zero, billsSent := 0, frame := some f } : Exporting)
      let closed := fun f => .next ⟨({ d.taken rest with accounts := turned, exporting := started f }).reply tag .ok
        (view (started f)), q⟩
      ((∀ a ∈ turned, 0 < a.number → a.closedRecord = .zero) → run = closed (.finish d.exporting.period 0)) ∧
      (∀ before a behind, turned = before ++ a :: behind → 0 < a.number → a.closedRecord ≠ .zero →
        (∀ b ∈ before, 0 < b.number → b.closedRecord = .zero) →
        run = closed (.bill d.exporting.period a.number a.closedRecord)))

/-- R196: NOTICE_ENABLE gives the twelve enable flags their values, turns the master enable on, and sets or clears the notice-waiting
flag by the live set. R197: NOTICE_CLEAR clears the pending flag and the last station of each class named, and the notice-waiting
flag if the live set is then empty. In both a class above 11 is BAD_VALUE and changes nothing, and the reply carries the notice
state (R198). -/
def Obligations.NoticeEnableAndClearAreTaken : Prop :=
  (∀ (d : Device) (q : List Instr) (tag : Half) (rest : List MgmtRequest) (b1 b0 : Byte),
    d.Takes { tag := tag, kind := 0x1E#8, params := [b1, b0] } rest →
    let flags : Half := b1 ++ b0
    (4096 ≤ flags.toNat →
      exec .noticeEnable ⟨d, q⟩ = .next ⟨(d.taken rest).reply tag .badValue (.notices d.notices), q⟩) ∧
    (flags.toNat < 4096 → ∃ n : Notices,
      exec .noticeEnable ⟨d, q⟩ = .next ⟨({ d.taken rest with notices := n }).reply tag .ok (.notices n), q⟩ ∧
      n.pending = d.notices.pending ∧ n.lastStation = d.notices.lastStation ∧ n.master = true ∧
      (∀ c : Fin 12, n.enabled[c] = flags.getLsbD c.val) ∧
      (n.waiting = true ↔ ∃ c : Fin 12, d.notices.pending[c] = true ∧ flags.getLsbD c.val = true))) ∧
  (∀ (d : Device) (q : List Instr) (tag : Half) (rest : List MgmtRequest) (b1 b0 : Byte),
    d.Takes { tag := tag, kind := 0x1F#8, params := [b1, b0] } rest →
    let named : Half := b1 ++ b0
    (4096 ≤ named.toNat →
      exec .noticeClear ⟨d, q⟩ = .next ⟨(d.taken rest).reply tag .badValue (.notices d.notices), q⟩) ∧
    (named.toNat < 4096 → ∃ n : Notices,
      exec .noticeClear ⟨d, q⟩ = .next ⟨({ d.taken rest with notices := n }).reply tag .ok (.notices n), q⟩ ∧
      n.enabled = d.notices.enabled ∧ n.master = d.notices.master ∧
      (∀ c : Fin 12, named.getLsbD c.val = true → n.pending[c] = false ∧
        (d.notices.pending[c] = true → n.lastStation[c] = none) ∧
        (d.notices.pending[c] = false → n.lastStation[c] = d.notices.lastStation[c])) ∧
      (∀ c : Fin 12, named.getLsbD c.val = false →
        n.pending[c] = d.notices.pending[c] ∧ n.lastStation[c] = d.notices.lastStation[c]) ∧
      (n.waiting = true ↔ d.notices.waiting = true ∧ d.notices.master = true ∧
        ∃ c : Fin 12, n.pending[c] = true ∧ d.notices.enabled[c] = true)))

/-- R189: RESTART sets restart taken and is answered OK behind the earlier replies; nothing else changes, and from then on no
request is taken. -/
def Obligations.RestartIsTaken : Prop :=
  (∀ (d : Device) (q : List Instr) (tag : Half) (rest : List MgmtRequest),
    d.Takes { tag := tag, kind := 0x7F#8, params := [] } rest →
    exec .restart ⟨d, q⟩ = .next ⟨{ d with mgmt := { d.mgmt with
      input := rest, restartTaken := true
      replies := d.mgmt.replies ++ [{ tag := tag, status := .ok, data := .none }] } }, q⟩) ∧
  (∀ (d : Device) (q : List Instr), d.mgmt.restartTaken = true ∨ 4 ≤ d.mgmt.replies.length ∨ d.mgmt.input = [] →
    ∀ c ∈ [Instr.accountPut, .accountDelete, .accountGet, .accountState, .accountCredit, .tariffLoad, .tariffSelect, .configSet,
      .configGet, .stationGet, .stationConfig, .stationService, .stationReset, .stationWake, .stationClear, .holdGet, .periodClose,
      .noticeEnable, .noticeClear, .restart, .unknownRequest], exec c ⟨d, q⟩ = .next ⟨d, q⟩)

/-! ### Frames and invariants -/

/-- R201, R203 to R205: the bytes of every well-formed inbound frame, taken by a waiting receiver of their line, come to the start
delimiter and the very command, and the receiver waits again. -/
def Obligations.InboundFramesComeBack : Prop :=
  ∀ (i : Instr) (line : Line) (bytes : List Byte), i.wf = true → encodeFrame i = some (line, bytes) →
    line.receiveAll .waiting (bytes.map .byte) = (.waiting, [line.delimiterCommand, i])

/-- R52, R82, R114, R145, R150, R151, R153, R154, R159, R161, R171, R194: every step keeps every queue and list within its size, the
half-duplex law of every station line, and the law of the notice-waiting flag. -/
def Obligations.EveryStepKeepsTheLaws : Prop :=
  ∀ s t : State, s.toDevice.Safe → step s = .next t → t.toDevice.Safe

/-- R111, R112, R180: every step keeps the number of outstanding requests within the configured limit. R82: every step keeps the
account table in ascending order of number, no two entries sharing one. R92: every step keeps each account's waiting list free of
repeats: no station appears twice. -/
def Obligations.EveryStepKeepsOrderAndLimit : Prop :=
  (∀ s t : State, s.outstanding ≤ s.mgmt.params.outstandingLimit → step s = .next t →
    t.outstanding ≤ t.mgmt.params.outstandingLimit) ∧
  (∀ s t : State, (s.accounts.map (·.number)).Pairwise (· < ·) → step s = .next t →
    (t.accounts.map (·.number)).Pairwise (· < ·)) ∧
  (∀ s t : State, s.toDevice.WaitersApart → step s = .next t → t.toDevice.WaitersApart)

/-- The state right after reset has the laws that every step keeps. -/
def Obligations.ResetHasTheLaws : Prop :=
  State.reset.toDevice.Safe ∧ State.reset.outstanding ≤ State.reset.mgmt.params.outstandingLimit ∧
    (State.reset.accounts.map (·.number)).Pairwise (· < ·) ∧ State.reset.toDevice.WaitersApart ∧ State.reset.pending = []

end
end

