-- ==== Sys2Proof/Laws/PerInstr.lean ====
section
/-! SUPPORT. The frame that a command stands for fits its line, and its header and payload read back as the command: one lemma
for each constructor; for a command that is no frame there is nothing to say. -/

namespace Sys2Proof.Laws.FrameLayout

/-! ### Fields (R203) -/

theorem half_halfBytes (h : Half) : half (h.extractLsb' 8 8) (h.extractLsb' 0 8) = h := by
  apply BitVec.eq_of_getLsbD_eq
  intro i hi
  simp only [half, BitVec.getLsbD_append, BitVec.getLsbD_extractLsb']
  by_cases h8 : i < 8
  · simp [h8]
  · have : i - 8 < 8 := by omega
    have e : 8 + (i - 8) = i := by omega
    simp [h8, this, e]

theorem amount24_amountBytes (a : Amount24) :
    amount24 (a.extractLsb' 16 8) (a.extractLsb' 8 8) (a.extractLsb' 0 8) = a := by
  apply BitVec.eq_of_getLsbD_eq
  intro i hi
  simp only [amount24, BitVec.getLsbD_append, BitVec.getLsbD_extractLsb']
  by_cases h8 : i < 8
  · simp [h8]
  · by_cases h16 : i - 8 < 8
    · have e : 8 + (i - 8) = i := by omega
      simp [h8, h16, e]
    · have : i - 8 - 8 < 8 := by omega
      have e : 16 + (i - 8 - 8) = i := by omega
      simp [h8, h16, this, e]

theorem reference32_wordBytes (w : BitVec 32) :
    reference32 (w.extractLsb' 24 8) (w.extractLsb' 16 8) (w.extractLsb' 8 8) (w.extractLsb' 0 8) = w := by
  apply BitVec.eq_of_getLsbD_eq
  intro i hi
  simp only [reference32, BitVec.getLsbD_append, BitVec.getLsbD_extractLsb']
  by_cases h8 : i < 8
  · simp [h8]
  · by_cases h16 : i - 8 < 8
    · have e : 8 + (i - 8) = i := by omega
      simp [h8, h16, e]
    · by_cases h24 : i - 8 - 8 < 8
      · have e : 16 + (i - 8 - 8) = i := by omega
        simp [h8, h16, h24, e]
      · have : i - 8 - 8 - 8 < 8 := by omega
        have e : 24 + (i - 8 - 8 - 8) = i := by omega
        simp [h8, h16, h24, this, e]

@[simp] theorem length_ordinalBytes (l : List Half) : (ordinalBytes l).length = 2 * l.length := by
  induction l with
  | nil => rfl
  | cons o rest ih => simp [ordinalBytes, halfBytes, ih]; omega

@[simp] theorem ordinalsOf_ordinalBytes (l : List Half) : ordinalsOf (ordinalBytes l) = l := by
  induction l with
  | nil => rfl
  | cons o rest ih => simp [ordinalBytes, halfBytes, ordinalsOf, half_halfBytes, ih]

@[simp] theorem length_itemBytes (l : List (Half × Byte)) : (itemBytes l).length = 3 * l.length := by
  induction l with
  | nil => rfl
  | cons o rest ih => simp [itemBytes, halfBytes, ih]; omega

@[simp] theorem itemsOf_itemBytes (l : List (Half × Byte)) : itemsOf (itemBytes l) = l := by
  induction l with
  | nil => rfl
  | cons o rest ih => simp [itemBytes, halfBytes, itemsOf, half_halfBytes, ih]

/-! ### The constructors -/

/-- R201, R204, R205: the frame of a well-formed command has its line's header length, a payload within the line's limit, and
header and payload that read back as the command. -/
def Statement (i : Instr) : Prop :=
  i.wf = true → ∀ line header payload, encodeParts i = some (line, header, payload) →
    header.length = line.headerLength ∧ payload.length ≤ line.payloadLimit ∧ line.decodeBody (header ++ payload) = i

theorem start (st : Station) (sheetsPerSet sets : Half) (sides size colour lastJob : Byte) : Statement (.start st sheetsPerSet sets sides size colour lastJob) := by
  intro _ line header payload he
  cases he
  refine ⟨rfl, by simp [halfBytes, Line.payloadLimit, Config.stationPayloadLimit], ?_⟩
  simp [Line.decodeBody, decodeStationFrame, decodeEngine, halfBytes, half_halfBytes]

theorem feed (st : Station) (ordinal : Half) (size colour : Byte) : Statement (.feed st ordinal size colour) := by
  intro _ line header payload he
  cases he
  refine ⟨rfl, by simp [halfBytes, Line.payloadLimit, Config.stationPayloadLimit], ?_⟩
  simp [Line.decodeBody, decodeStationFrame, decodeEngine, halfBytes, half_halfBytes]

theorem exit (st : Station) (ordinal : Half) : Statement (.exit st ordinal) := by
  intro _ line header payload he
  cases he
  refine ⟨rfl, by simp [halfBytes, Line.payloadLimit, Config.stationPayloadLimit], ?_⟩
  simp [Line.decodeBody, decodeStationFrame, decodeEngine, halfBytes, half_halfBytes]

theorem jam (st : Station) (ordinals : List Half) : Statement (.jam st ordinals) := by
  intro hw line header payload he
  cases he
  have hl : ordinals.length ≤ 8 := of_decide_eq_true hw
  have hn : (BitVec.ofNat 8 ordinals.length).toNat = ordinals.length := by
    rw [BitVec.toNat_ofNat]; exact Nat.mod_eq_of_lt (by omega)
  refine ⟨rfl, by simp [Line.payloadLimit, Config.stationPayloadLimit]; omega, ?_⟩
  show decodeJam st (BitVec.ofNat 8 ordinals.length :: ordinalBytes ordinals) = .jam st ordinals
  simp [decodeJam, hn, hl, Config.listLimit]

theorem clear (st : Station) (items : List (Half × Byte)) : Statement (.clear st items) := by
  intro hw line header payload he
  cases he
  have hl : items.length ≤ 8 := of_decide_eq_true hw
  have hn : (BitVec.ofNat 8 items.length).toNat = items.length := by
    rw [BitVec.toNat_ofNat]; exact Nat.mod_eq_of_lt (by omega)
  refine ⟨rfl, by simp [Line.payloadLimit, Config.stationPayloadLimit]; omega, ?_⟩
  show decodeClear st (BitVec.ofNat 8 items.length :: itemBytes items) = .clear st items
  simp [decodeClear, hn, hl, Config.listLimit]

theorem stop (st : Station) : Statement (.stop st) := by
  intro _ line header payload he; cases he; exact ⟨rfl, Nat.zero_le _, rfl⟩

theorem keyin (st : Station) (account : Amount24) (pin : Half) : Statement (.keyin st account pin) := by
  intro _ line header payload he
  cases he
  refine ⟨rfl, by simp [halfBytes, amountBytes, Line.payloadLimit, Config.stationPayloadLimit], ?_⟩
  simp [Line.decodeBody, decodeStationFrame, decodeEngine, halfBytes, amountBytes, half_halfBytes, amount24_amountBytes]

theorem logout (st : Station) : Statement (.logout st) := by
  intro _ line header payload he; cases he; exact ⟨rfl, Nat.zero_le _, rfl⟩

theorem service (st : Station) (payload : List Byte) : Statement (.service st payload) := by
  intro hw line header bytes he
  cases he
  have hf : textFits payload = true := hw
  have hl : payload.length ≤ 48 := of_decide_eq_true ((Bool.and_eq_true _ _).mp hf).2
  refine ⟨rfl, by simp only [Line.payloadLimit, Config.stationPayloadLimit]; omega, ?_⟩
  show (if textFits payload then Instr.service st payload else .stationBadFrame st) = .service st payload
  rw [hf]; rfl

theorem card (st : Station) (token : List Byte) : Statement (.card st token) := by
  intro hw line header bytes he
  cases he
  have hl : token.length = Config.tokenLength := by simpa [Instr.wf] using hw
  refine ⟨rfl, by rw [hl]; simp [Config.tokenLength, Line.payloadLimit, Config.stationPayloadLimit], ?_⟩
  show (if token.length = Config.tokenLength then Instr.card st token else .stationBadFrame st) = .card st token
  rw [if_pos hl]

theorem cardOut (st : Station) : Statement (.cardOut st) := by
  intro _ line header payload he; cases he; exact ⟨rfl, Nat.zero_le _, rfl⟩

theorem stationBadFrame (st : Station) : Statement (.stationBadFrame st) :=
  fun _ _ _ _ he => nomatch he

theorem stationUnroutedFrame (st : Station) (endpoint kind : Byte) : Statement (.stationUnroutedFrame st endpoint kind) :=
  fun _ _ _ _ he => nomatch he

theorem stationCarrierLoss (st : Station) : Statement (.stationCarrierLoss st) :=
  fun _ _ _ _ he => nomatch he

theorem stationCarrierReturn (st : Station) : Statement (.stationCarrierReturn st) :=
  fun _ _ _ _ he => nomatch he

theorem stationTransmitStart (st : Station) : Statement (.stationTransmitStart st) :=
  fun _ _ _ _ he => nomatch he

theorem stationFrameSent (st : Station) : Statement (.stationFrameSent st) :=
  fun _ _ _ _ he => nomatch he

theorem dozeTimerExpiry (st : Station) : Statement (.dozeTimerExpiry st) :=
  fun _ _ _ _ he => nomatch he

theorem idleTimerExpiry (st : Station) : Statement (.idleTimerExpiry st) :=
  fun _ _ _ _ he => nomatch he

theorem waitTimerExpiry (st : Station) : Statement (.waitTimerExpiry st) :=
  fun _ _ _ _ he => nomatch he

theorem jamTimerExpiry (st : Station) : Statement (.jamTimerExpiry st) :=
  fun _ _ _ _ he => nomatch he

theorem authResult (slot generation : Byte) (approved : Amount24) (lifetime : Byte) (reference : Option Reference) : Statement (.authResult slot generation approved lifetime reference) := by
  intro _ line header payload he
  cases reference with
  | none =>
    cases he
    refine ⟨rfl, by simp [amountBytes, Line.payloadLimit, Config.uplinkPayloadLimit], ?_⟩
    simp [Line.decodeBody, decodeUplinkFrame, amountBytes, amount24_amountBytes]
  | some ref =>
    cases he
    refine ⟨rfl, by simp [amountBytes, wordBytes, Line.payloadLimit, Config.uplinkPayloadLimit], ?_⟩
    simp [Line.decodeBody, decodeUplinkFrame, amountBytes, wordBytes, amount24_amountBytes, reference32_wordBytes]

theorem renewResult (slot generation : Byte) (approved : Amount24) (lifetime : Byte) : Statement (.renewResult slot generation approved lifetime) := by
  intro _ line header payload he
  cases he
  refine ⟨rfl, by simp [amountBytes, Line.payloadLimit, Config.uplinkPayloadLimit], ?_⟩
  simp [Line.decodeBody, decodeUplinkFrame, amountBytes, amount24_amountBytes]

theorem captureDone (slot generation outcome : Byte) : Statement (.captureDone slot generation outcome) := by
  intro _ line header payload he; cases he; exact ⟨rfl, by simp [Line.payloadLimit, Config.uplinkPayloadLimit], rfl⟩

theorem voidDone (slot generation : Byte) : Statement (.voidDone slot generation) := by
  intro _ line header payload he; cases he; exact ⟨rfl, by simp [Line.payloadLimit, Config.uplinkPayloadLimit], rfl⟩

theorem textDown (station : Byte) (text : List Byte) : Statement (.textDown station text) := by
  intro hw line header payload he
  cases he
  have hf : textFits text = true := hw
  have hl : text.length ≤ 48 := of_decide_eq_true ((Bool.and_eq_true _ _).mp hf).2
  refine ⟨rfl, by simp only [List.length_cons, Line.payloadLimit, Config.uplinkPayloadLimit]; omega, ?_⟩
  simp [Line.decodeBody, decodeUplinkFrame, hf]

theorem mgmt (tag : Half) (kind : Byte) (params : List Byte) : Statement (.mgmt tag kind params) := by
  intro hw line header payload he
  cases he
  have hl : params.length ≤ 93 := of_decide_eq_true hw
  refine ⟨rfl, by simp [halfBytes, Line.payloadLimit, Config.uplinkPayloadLimit]; omega, ?_⟩
  simp [Line.decodeBody, decodeUplinkFrame, halfBytes, half_halfBytes, hl, Config.paramLimit]

theorem uplinkBadFrame : Statement .uplinkBadFrame :=
  fun _ _ _ _ he => nomatch he

theorem uplinkUnroutedFrame (kind : Byte) : Statement (.uplinkUnroutedFrame kind) :=
  fun _ _ _ _ he => nomatch he

theorem uplinkCarrierLoss : Statement .uplinkCarrierLoss :=
  fun _ _ _ _ he => nomatch he

theorem uplinkCarrierReturn : Statement .uplinkCarrierReturn :=
  fun _ _ _ _ he => nomatch he

theorem arbiterChoice : Statement .arbiterChoice :=
  fun _ _ _ _ he => nomatch he

theorem uplinkFrameSent : Statement .uplinkFrameSent :=
  fun _ _ _ _ he => nomatch he

theorem authTimeout (slot : SlotNo) : Statement (.authTimeout slot) :=
  fun _ _ _ _ he => nomatch he

theorem renewTimeout (slot : SlotNo) : Statement (.renewTimeout slot) :=
  fun _ _ _ _ he => nomatch he

theorem finalRequestTimeout (slot : SlotNo) : Statement (.finalRequestTimeout slot) :=
  fun _ _ _ _ he => nomatch he

theorem lapseTimerExpiry (slot : SlotNo) : Statement (.lapseTimerExpiry slot) :=
  fun _ _ _ _ he => nomatch he

theorem timebaseTick : Statement .timebaseTick :=
  fun _ _ _ _ he => nomatch he

theorem holdExpiry (slot : SlotNo) : Statement (.holdExpiry slot) :=
  fun _ _ _ _ he => nomatch he

theorem authApprovalReport (st : Station) : Statement (.authApprovalReport st) :=
  fun _ _ _ _ he => nomatch he

theorem authDeclineReport (st : Station) : Statement (.authDeclineReport st) :=
  fun _ _ _ _ he => nomatch he

theorem authTimeoutReport (st : Station) : Statement (.authTimeoutReport st) :=
  fun _ _ _ _ he => nomatch he

theorem holdExpiryReport (st : Station) : Statement (.holdExpiryReport st) :=
  fun _ _ _ _ he => nomatch he

theorem renewalApprovalReport (st : Station) : Statement (.renewalApprovalReport st) :=
  fun _ _ _ _ he => nomatch he

theorem renewalRefusalReport (st : Station) : Statement (.renewalRefusalReport st) :=
  fun _ _ _ _ he => nomatch he

theorem accountRefill (st : Station) : Statement (.accountRefill st) :=
  fun _ _ _ _ he => nomatch he

theorem refillAnswer (st : Station) : Statement (.refillAnswer st) :=
  fun _ _ _ _ he => nomatch he

theorem waitingListGrant (st : Station) : Statement (.waitingListGrant st) :=
  fun _ _ _ _ he => nomatch he

theorem accountCloseReport (st : Station) : Statement (.accountCloseReport st) :=
  fun _ _ _ _ he => nomatch he

theorem reportOfferRetry (st : Station) : Statement (.reportOfferRetry st) :=
  fun _ _ _ _ he => nomatch he

theorem accountPut : Statement .accountPut :=
  fun _ _ _ _ he => nomatch he

theorem accountDelete : Statement .accountDelete :=
  fun _ _ _ _ he => nomatch he

theorem accountGet : Statement .accountGet :=
  fun _ _ _ _ he => nomatch he

theorem accountState : Statement .accountState :=
  fun _ _ _ _ he => nomatch he

theorem accountCredit : Statement .accountCredit :=
  fun _ _ _ _ he => nomatch he

theorem tariffLoad : Statement .tariffLoad :=
  fun _ _ _ _ he => nomatch he

theorem tariffSelect : Statement .tariffSelect :=
  fun _ _ _ _ he => nomatch he

theorem configSet : Statement .configSet :=
  fun _ _ _ _ he => nomatch he

theorem configGet : Statement .configGet :=
  fun _ _ _ _ he => nomatch he

theorem stationGet : Statement .stationGet :=
  fun _ _ _ _ he => nomatch he

theorem stationConfig : Statement .stationConfig :=
  fun _ _ _ _ he => nomatch he

theorem stationService : Statement .stationService :=
  fun _ _ _ _ he => nomatch he

theorem stationReset : Statement .stationReset :=
  fun _ _ _ _ he => nomatch he

theorem stationWake : Statement .stationWake :=
  fun _ _ _ _ he => nomatch he

theorem stationClear : Statement .stationClear :=
  fun _ _ _ _ he => nomatch he

theorem holdGet : Statement .holdGet :=
  fun _ _ _ _ he => nomatch he

theorem periodClose : Statement .periodClose :=
  fun _ _ _ _ he => nomatch he

theorem noticeEnable : Statement .noticeEnable :=
  fun _ _ _ _ he => nomatch he

theorem noticeClear : Statement .noticeClear :=
  fun _ _ _ _ he => nomatch he

theorem restart : Statement .restart :=
  fun _ _ _ _ he => nomatch he

theorem unknownRequest : Statement .unknownRequest :=
  fun _ _ _ _ he => nomatch he

theorem resetAsserted : Statement .resetAsserted :=
  fun _ _ _ _ he => nomatch he

theorem resetReleased : Statement .resetReleased :=
  fun _ _ _ _ he => nomatch he

theorem stationStartDelimiter (st : Station) : Statement (.stationStartDelimiter st) :=
  fun _ _ _ _ he => nomatch he

theorem uplinkStartDelimiter : Statement .uplinkStartDelimiter :=
  fun _ _ _ _ he => nomatch he

end Sys2Proof.Laws.FrameLayout
end

