-- ==== Sys2Proof/Laws/State.lean ====
section
/-! SUPPORT. One lemma per field for each update of the part, true by rfl; and what the updates of one record of a table do
to that record and to the others. -/

namespace Sys2Proof.Machine

/-! ### A record of a table -/

theorem update_self {α : Type} {n : Nat} (v : Vector α n) (i : Fin n) (f : α → α) : (update v i f)[i] = f v[i] := by
  simp [update]

theorem update_ne {α : Type} {n : Nat} (v : Vector α n) (i j : Fin n) (f : α → α) (h : j ≠ i) :
    (update v i f)[j] = v[j] := by
  have : i.val ≠ j.val := fun e => h (Fin.ext e.symm)
  simp [update, this]

/-! ### modCtx -/

@[simp] theorem Device.modCtx_carrierDetect (d : Device) (st : Station) (f : Context → Context) : (d.modCtx st f).carrierDetect = d.carrierDetect := rfl
@[simp] theorem Device.modCtx_uplinkDetect (d : Device) (st : Station) (f : Context → Context) : (d.modCtx st f).uplinkDetect = d.uplinkDetect := rfl
@[simp] theorem Device.modCtx_resetAsserted (d : Device) (st : Station) (f : Context → Context) : (d.modCtx st f).resetAsserted = d.resetAsserted := rfl
@[simp] theorem Device.modCtx_paths (d : Device) (st : Station) (f : Context → Context) : (d.modCtx st f).paths = d.paths := rfl
@[simp] theorem Device.modCtx_path (d : Device) (st : Station) (f : Context → Context) (x : Station) : (d.modCtx st f).path x = d.path x := rfl
@[simp] theorem Device.modCtx_ports (d : Device) (st : Station) (f : Context → Context) : (d.modCtx st f).ports = d.ports := rfl
@[simp] theorem Device.modCtx_port (d : Device) (st : Station) (f : Context → Context) (x : Station) : (d.modCtx st f).port x = d.port x := rfl
@[simp] theorem Device.modCtx_configs (d : Device) (st : Station) (f : Context → Context) : (d.modCtx st f).configs = d.configs := rfl
@[simp] theorem Device.modCtx_serviceUp (d : Device) (st : Station) (f : Context → Context) : (d.modCtx st f).serviceUp = d.serviceUp := rfl
@[simp] theorem Device.modCtx_tariff (d : Device) (st : Station) (f : Context → Context) : (d.modCtx st f).tariff = d.tariff := rfl
@[simp] theorem Device.modCtx_accounts (d : Device) (st : Station) (f : Context → Context) : (d.modCtx st f).accounts = d.accounts := rfl
@[simp] theorem Device.modCtx_account (d : Device) (st : Station) (f : Context → Context) (x : Nat) : (d.modCtx st f).account x = d.account x := rfl
@[simp] theorem Device.modCtx_exporting (d : Device) (st : Station) (f : Context → Context) : (d.modCtx st f).exporting = d.exporting := rfl
@[simp] theorem Device.modCtx_slots (d : Device) (st : Station) (f : Context → Context) : (d.modCtx st f).slots = d.slots := rfl
@[simp] theorem Device.modCtx_slot (d : Device) (st : Station) (f : Context → Context) (x : SlotNo) : (d.modCtx st f).slot x = d.slot x := rfl
@[simp] theorem Device.modCtx_payQueue (d : Device) (st : Station) (f : Context → Context) : (d.modCtx st f).payQueue = d.payQueue := rfl
@[simp] theorem Device.modCtx_outstanding (d : Device) (st : Station) (f : Context → Context) : (d.modCtx st f).outstanding = d.outstanding := rfl
@[simp] theorem Device.modCtx_staleVoids (d : Device) (st : Station) (f : Context → Context) : (d.modCtx st f).staleVoids = d.staleVoids := rfl
@[simp] theorem Device.modCtx_payReports (d : Device) (st : Station) (f : Context → Context) : (d.modCtx st f).payReports = d.payReports := rfl
@[simp] theorem Device.modCtx_reports (d : Device) (st : Station) (f : Context → Context) : (d.modCtx st f).reports = d.reports := rfl
@[simp] theorem Device.modCtx_notices (d : Device) (st : Station) (f : Context → Context) : (d.modCtx st f).notices = d.notices := rfl
@[simp] theorem Device.modCtx_mgmt (d : Device) (st : Station) (f : Context → Context) : (d.modCtx st f).mgmt = d.mgmt := rfl
@[simp] theorem Device.modCtx_uplink (d : Device) (st : Station) (f : Context → Context) : (d.modCtx st f).uplink = d.uplink := rfl
@[simp] theorem Device.modCtx_freeCount (d : Device) (st : Station) (f : Context → Context) : (d.modCtx st f).freeCount = d.freeCount := rfl

/-! ### setPath -/

@[simp] theorem Device.setPath_carrierDetect (d : Device) (st : Station) (p : List PathEntry) : (d.setPath st p).carrierDetect = d.carrierDetect := rfl
@[simp] theorem Device.setPath_uplinkDetect (d : Device) (st : Station) (p : List PathEntry) : (d.setPath st p).uplinkDetect = d.uplinkDetect := rfl
@[simp] theorem Device.setPath_resetAsserted (d : Device) (st : Station) (p : List PathEntry) : (d.setPath st p).resetAsserted = d.resetAsserted := rfl
@[simp] theorem Device.setPath_contexts (d : Device) (st : Station) (p : List PathEntry) : (d.setPath st p).contexts = d.contexts := rfl
@[simp] theorem Device.setPath_ctx (d : Device) (st : Station) (p : List PathEntry) (x : Station) : (d.setPath st p).ctx x = d.ctx x := rfl
@[simp] theorem Device.setPath_ports (d : Device) (st : Station) (p : List PathEntry) : (d.setPath st p).ports = d.ports := rfl
@[simp] theorem Device.setPath_port (d : Device) (st : Station) (p : List PathEntry) (x : Station) : (d.setPath st p).port x = d.port x := rfl
@[simp] theorem Device.setPath_configs (d : Device) (st : Station) (p : List PathEntry) : (d.setPath st p).configs = d.configs := rfl
@[simp] theorem Device.setPath_serviceUp (d : Device) (st : Station) (p : List PathEntry) : (d.setPath st p).serviceUp = d.serviceUp := rfl
@[simp] theorem Device.setPath_tariff (d : Device) (st : Station) (p : List PathEntry) : (d.setPath st p).tariff = d.tariff := rfl
@[simp] theorem Device.setPath_accounts (d : Device) (st : Station) (p : List PathEntry) : (d.setPath st p).accounts = d.accounts := rfl
@[simp] theorem Device.setPath_account (d : Device) (st : Station) (p : List PathEntry) (x : Nat) : (d.setPath st p).account x = d.account x := rfl
@[simp] theorem Device.setPath_exporting (d : Device) (st : Station) (p : List PathEntry) : (d.setPath st p).exporting = d.exporting := rfl
@[simp] theorem Device.setPath_slots (d : Device) (st : Station) (p : List PathEntry) : (d.setPath st p).slots = d.slots := rfl
@[simp] theorem Device.setPath_slot (d : Device) (st : Station) (p : List PathEntry) (x : SlotNo) : (d.setPath st p).slot x = d.slot x := rfl
@[simp] theorem Device.setPath_payQueue (d : Device) (st : Station) (p : List PathEntry) : (d.setPath st p).payQueue = d.payQueue := rfl
@[simp] theorem Device.setPath_outstanding (d : Device) (st : Station) (p : List PathEntry) : (d.setPath st p).outstanding = d.outstanding := rfl
@[simp] theorem Device.setPath_staleVoids (d : Device) (st : Station) (p : List PathEntry) : (d.setPath st p).staleVoids = d.staleVoids := rfl
@[simp] theorem Device.setPath_payReports (d : Device) (st : Station) (p : List PathEntry) : (d.setPath st p).payReports = d.payReports := rfl
@[simp] theorem Device.setPath_reports (d : Device) (st : Station) (p : List PathEntry) : (d.setPath st p).reports = d.reports := rfl
@[simp] theorem Device.setPath_notices (d : Device) (st : Station) (p : List PathEntry) : (d.setPath st p).notices = d.notices := rfl
@[simp] theorem Device.setPath_mgmt (d : Device) (st : Station) (p : List PathEntry) : (d.setPath st p).mgmt = d.mgmt := rfl
@[simp] theorem Device.setPath_uplink (d : Device) (st : Station) (p : List PathEntry) : (d.setPath st p).uplink = d.uplink := rfl
@[simp] theorem Device.setPath_freeCount (d : Device) (st : Station) (p : List PathEntry) : (d.setPath st p).freeCount = d.freeCount := rfl

/-! ### modPort -/

@[simp] theorem Device.modPort_carrierDetect (d : Device) (st : Station) (f : Port → Port) : (d.modPort st f).carrierDetect = d.carrierDetect := rfl
@[simp] theorem Device.modPort_uplinkDetect (d : Device) (st : Station) (f : Port → Port) : (d.modPort st f).uplinkDetect = d.uplinkDetect := rfl
@[simp] theorem Device.modPort_resetAsserted (d : Device) (st : Station) (f : Port → Port) : (d.modPort st f).resetAsserted = d.resetAsserted := rfl
@[simp] theorem Device.modPort_contexts (d : Device) (st : Station) (f : Port → Port) : (d.modPort st f).contexts = d.contexts := rfl
@[simp] theorem Device.modPort_ctx (d : Device) (st : Station) (f : Port → Port) (x : Station) : (d.modPort st f).ctx x = d.ctx x := rfl
@[simp] theorem Device.modPort_paths (d : Device) (st : Station) (f : Port → Port) : (d.modPort st f).paths = d.paths := rfl
@[simp] theorem Device.modPort_path (d : Device) (st : Station) (f : Port → Port) (x : Station) : (d.modPort st f).path x = d.path x := rfl
@[simp] theorem Device.modPort_configs (d : Device) (st : Station) (f : Port → Port) : (d.modPort st f).configs = d.configs := rfl
@[simp] theorem Device.modPort_serviceUp (d : Device) (st : Station) (f : Port → Port) : (d.modPort st f).serviceUp = d.serviceUp := rfl
@[simp] theorem Device.modPort_tariff (d : Device) (st : Station) (f : Port → Port) : (d.modPort st f).tariff = d.tariff := rfl
@[simp] theorem Device.modPort_accounts (d : Device) (st : Station) (f : Port → Port) : (d.modPort st f).accounts = d.accounts := rfl
@[simp] theorem Device.modPort_account (d : Device) (st : Station) (f : Port → Port) (x : Nat) : (d.modPort st f).account x = d.account x := rfl
@[simp] theorem Device.modPort_exporting (d : Device) (st : Station) (f : Port → Port) : (d.modPort st f).exporting = d.exporting := rfl
@[simp] theorem Device.modPort_slots (d : Device) (st : Station) (f : Port → Port) : (d.modPort st f).slots = d.slots := rfl
@[simp] theorem Device.modPort_slot (d : Device) (st : Station) (f : Port → Port) (x : SlotNo) : (d.modPort st f).slot x = d.slot x := rfl
@[simp] theorem Device.modPort_payQueue (d : Device) (st : Station) (f : Port → Port) : (d.modPort st f).payQueue = d.payQueue := rfl
@[simp] theorem Device.modPort_outstanding (d : Device) (st : Station) (f : Port → Port) : (d.modPort st f).outstanding = d.outstanding := rfl
@[simp] theorem Device.modPort_staleVoids (d : Device) (st : Station) (f : Port → Port) : (d.modPort st f).staleVoids = d.staleVoids := rfl
@[simp] theorem Device.modPort_payReports (d : Device) (st : Station) (f : Port → Port) : (d.modPort st f).payReports = d.payReports := rfl
@[simp] theorem Device.modPort_reports (d : Device) (st : Station) (f : Port → Port) : (d.modPort st f).reports = d.reports := rfl
@[simp] theorem Device.modPort_notices (d : Device) (st : Station) (f : Port → Port) : (d.modPort st f).notices = d.notices := rfl
@[simp] theorem Device.modPort_mgmt (d : Device) (st : Station) (f : Port → Port) : (d.modPort st f).mgmt = d.mgmt := rfl
@[simp] theorem Device.modPort_uplink (d : Device) (st : Station) (f : Port → Port) : (d.modPort st f).uplink = d.uplink := rfl
@[simp] theorem Device.modPort_freeCount (d : Device) (st : Station) (f : Port → Port) : (d.modPort st f).freeCount = d.freeCount := rfl

/-! ### transmit -/

@[simp] theorem Device.transmit_carrierDetect (d : Device) (st : Station) : (d.transmit st).carrierDetect = d.carrierDetect := rfl
@[simp] theorem Device.transmit_uplinkDetect (d : Device) (st : Station) : (d.transmit st).uplinkDetect = d.uplinkDetect := rfl
@[simp] theorem Device.transmit_resetAsserted (d : Device) (st : Station) : (d.transmit st).resetAsserted = d.resetAsserted := rfl
@[simp] theorem Device.transmit_contexts (d : Device) (st : Station) : (d.transmit st).contexts = d.contexts := rfl
@[simp] theorem Device.transmit_ctx (d : Device) (st : Station) (x : Station) : (d.transmit st).ctx x = d.ctx x := rfl
@[simp] theorem Device.transmit_paths (d : Device) (st : Station) : (d.transmit st).paths = d.paths := rfl
@[simp] theorem Device.transmit_path (d : Device) (st : Station) (x : Station) : (d.transmit st).path x = d.path x := rfl
@[simp] theorem Device.transmit_configs (d : Device) (st : Station) : (d.transmit st).configs = d.configs := rfl
@[simp] theorem Device.transmit_serviceUp (d : Device) (st : Station) : (d.transmit st).serviceUp = d.serviceUp := rfl
@[simp] theorem Device.transmit_tariff (d : Device) (st : Station) : (d.transmit st).tariff = d.tariff := rfl
@[simp] theorem Device.transmit_accounts (d : Device) (st : Station) : (d.transmit st).accounts = d.accounts := rfl
@[simp] theorem Device.transmit_account (d : Device) (st : Station) (x : Nat) : (d.transmit st).account x = d.account x := rfl
@[simp] theorem Device.transmit_exporting (d : Device) (st : Station) : (d.transmit st).exporting = d.exporting := rfl
@[simp] theorem Device.transmit_slots (d : Device) (st : Station) : (d.transmit st).slots = d.slots := rfl
@[simp] theorem Device.transmit_slot (d : Device) (st : Station) (x : SlotNo) : (d.transmit st).slot x = d.slot x := rfl
@[simp] theorem Device.transmit_payQueue (d : Device) (st : Station) : (d.transmit st).payQueue = d.payQueue := rfl
@[simp] theorem Device.transmit_outstanding (d : Device) (st : Station) : (d.transmit st).outstanding = d.outstanding := rfl
@[simp] theorem Device.transmit_staleVoids (d : Device) (st : Station) : (d.transmit st).staleVoids = d.staleVoids := rfl
@[simp] theorem Device.transmit_payReports (d : Device) (st : Station) : (d.transmit st).payReports = d.payReports := rfl
@[simp] theorem Device.transmit_reports (d : Device) (st : Station) : (d.transmit st).reports = d.reports := rfl
@[simp] theorem Device.transmit_notices (d : Device) (st : Station) : (d.transmit st).notices = d.notices := rfl
@[simp] theorem Device.transmit_mgmt (d : Device) (st : Station) : (d.transmit st).mgmt = d.mgmt := rfl
@[simp] theorem Device.transmit_uplink (d : Device) (st : Station) : (d.transmit st).uplink = d.uplink := rfl
@[simp] theorem Device.transmit_freeCount (d : Device) (st : Station) : (d.transmit st).freeCount = d.freeCount := rfl

/-! ### modSlot -/

@[simp] theorem Device.modSlot_carrierDetect (d : Device) (i : SlotNo) (f : Slot → Slot) : (d.modSlot i f).carrierDetect = d.carrierDetect := rfl
@[simp] theorem Device.modSlot_uplinkDetect (d : Device) (i : SlotNo) (f : Slot → Slot) : (d.modSlot i f).uplinkDetect = d.uplinkDetect := rfl
@[simp] theorem Device.modSlot_resetAsserted (d : Device) (i : SlotNo) (f : Slot → Slot) : (d.modSlot i f).resetAsserted = d.resetAsserted := rfl
@[simp] theorem Device.modSlot_contexts (d : Device) (i : SlotNo) (f : Slot → Slot) : (d.modSlot i f).contexts = d.contexts := rfl
@[simp] theorem Device.modSlot_ctx (d : Device) (i : SlotNo) (f : Slot → Slot) (x : Station) : (d.modSlot i f).ctx x = d.ctx x := rfl
@[simp] theorem Device.modSlot_paths (d : Device) (i : SlotNo) (f : Slot → Slot) : (d.modSlot i f).paths = d.paths := rfl
@[simp] theorem Device.modSlot_path (d : Device) (i : SlotNo) (f : Slot → Slot) (x : Station) : (d.modSlot i f).path x = d.path x := rfl
@[simp] theorem Device.modSlot_ports (d : Device) (i : SlotNo) (f : Slot → Slot) : (d.modSlot i f).ports = d.ports := rfl
@[simp] theorem Device.modSlot_port (d : Device) (i : SlotNo) (f : Slot → Slot) (x : Station) : (d.modSlot i f).port x = d.port x := rfl
@[simp] theorem Device.modSlot_configs (d : Device) (i : SlotNo) (f : Slot → Slot) : (d.modSlot i f).configs = d.configs := rfl
@[simp] theorem Device.modSlot_serviceUp (d : Device) (i : SlotNo) (f : Slot → Slot) : (d.modSlot i f).serviceUp = d.serviceUp := rfl
@[simp] theorem Device.modSlot_tariff (d : Device) (i : SlotNo) (f : Slot → Slot) : (d.modSlot i f).tariff = d.tariff := rfl
@[simp] theorem Device.modSlot_accounts (d : Device) (i : SlotNo) (f : Slot → Slot) : (d.modSlot i f).accounts = d.accounts := rfl
@[simp] theorem Device.modSlot_account (d : Device) (i : SlotNo) (f : Slot → Slot) (x : Nat) : (d.modSlot i f).account x = d.account x := rfl
@[simp] theorem Device.modSlot_exporting (d : Device) (i : SlotNo) (f : Slot → Slot) : (d.modSlot i f).exporting = d.exporting := rfl
@[simp] theorem Device.modSlot_payQueue (d : Device) (i : SlotNo) (f : Slot → Slot) : (d.modSlot i f).payQueue = d.payQueue := rfl
@[simp] theorem Device.modSlot_outstanding (d : Device) (i : SlotNo) (f : Slot → Slot) : (d.modSlot i f).outstanding = d.outstanding := rfl
@[simp] theorem Device.modSlot_staleVoids (d : Device) (i : SlotNo) (f : Slot → Slot) : (d.modSlot i f).staleVoids = d.staleVoids := rfl
@[simp] theorem Device.modSlot_payReports (d : Device) (i : SlotNo) (f : Slot → Slot) : (d.modSlot i f).payReports = d.payReports := rfl
@[simp] theorem Device.modSlot_reports (d : Device) (i : SlotNo) (f : Slot → Slot) : (d.modSlot i f).reports = d.reports := rfl
@[simp] theorem Device.modSlot_notices (d : Device) (i : SlotNo) (f : Slot → Slot) : (d.modSlot i f).notices = d.notices := rfl
@[simp] theorem Device.modSlot_mgmt (d : Device) (i : SlotNo) (f : Slot → Slot) : (d.modSlot i f).mgmt = d.mgmt := rfl
@[simp] theorem Device.modSlot_uplink (d : Device) (i : SlotNo) (f : Slot → Slot) : (d.modSlot i f).uplink = d.uplink := rfl
@[simp] theorem Device.modSlot_freeCount (d : Device) (i : SlotNo) (f : Slot → Slot) : (d.modSlot i f).freeCount = d.freeCount := rfl

/-! ### modConfig -/

@[simp] theorem Device.modConfig_carrierDetect (d : Device) (st : Station) (f : StationConfig → StationConfig) : (d.modConfig st f).carrierDetect = d.carrierDetect := rfl
@[simp] theorem Device.modConfig_uplinkDetect (d : Device) (st : Station) (f : StationConfig → StationConfig) : (d.modConfig st f).uplinkDetect = d.uplinkDetect := rfl
@[simp] theorem Device.modConfig_resetAsserted (d : Device) (st : Station) (f : StationConfig → StationConfig) : (d.modConfig st f).resetAsserted = d.resetAsserted := rfl
@[simp] theorem Device.modConfig_contexts (d : Device) (st : Station) (f : StationConfig → StationConfig) : (d.modConfig st f).contexts = d.contexts := rfl
@[simp] theorem Device.modConfig_ctx (d : Device) (st : Station) (f : StationConfig → StationConfig) (x : Station) : (d.modConfig st f).ctx x = d.ctx x := rfl
@[simp] theorem Device.modConfig_paths (d : Device) (st : Station) (f : StationConfig → StationConfig) : (d.modConfig st f).paths = d.paths := rfl
@[simp] theorem Device.modConfig_path (d : Device) (st : Station) (f : StationConfig → StationConfig) (x : Station) : (d.modConfig st f).path x = d.path x := rfl
@[simp] theorem Device.modConfig_ports (d : Device) (st : Station) (f : StationConfig → StationConfig) : (d.modConfig st f).ports = d.ports := rfl
@[simp] theorem Device.modConfig_port (d : Device) (st : Station) (f : StationConfig → StationConfig) (x : Station) : (d.modConfig st f).port x = d.port x := rfl
@[simp] theorem Device.modConfig_serviceUp (d : Device) (st : Station) (f : StationConfig → StationConfig) : (d.modConfig st f).serviceUp = d.serviceUp := rfl
@[simp] theorem Device.modConfig_tariff (d : Device) (st : Station) (f : StationConfig → StationConfig) : (d.modConfig st f).tariff = d.tariff := rfl
@[simp] theorem Device.modConfig_accounts (d : Device) (st : Station) (f : StationConfig → StationConfig) : (d.modConfig st f).accounts = d.accounts := rfl
@[simp] theorem Device.modConfig_account (d : Device) (st : Station) (f : StationConfig → StationConfig) (x : Nat) : (d.modConfig st f).account x = d.account x := rfl
@[simp] theorem Device.modConfig_exporting (d : Device) (st : Station) (f : StationConfig → StationConfig) : (d.modConfig st f).exporting = d.exporting := rfl
@[simp] theorem Device.modConfig_slots (d : Device) (st : Station) (f : StationConfig → StationConfig) : (d.modConfig st f).slots = d.slots := rfl
@[simp] theorem Device.modConfig_slot (d : Device) (st : Station) (f : StationConfig → StationConfig) (x : SlotNo) : (d.modConfig st f).slot x = d.slot x := rfl
@[simp] theorem Device.modConfig_payQueue (d : Device) (st : Station) (f : StationConfig → StationConfig) : (d.modConfig st f).payQueue = d.payQueue := rfl
@[simp] theorem Device.modConfig_outstanding (d : Device) (st : Station) (f : StationConfig → StationConfig) : (d.modConfig st f).outstanding = d.outstanding := rfl
@[simp] theorem Device.modConfig_staleVoids (d : Device) (st : Station) (f : StationConfig → StationConfig) : (d.modConfig st f).staleVoids = d.staleVoids := rfl
@[simp] theorem Device.modConfig_payReports (d : Device) (st : Station) (f : StationConfig → StationConfig) : (d.modConfig st f).payReports = d.payReports := rfl
@[simp] theorem Device.modConfig_reports (d : Device) (st : Station) (f : StationConfig → StationConfig) : (d.modConfig st f).reports = d.reports := rfl
@[simp] theorem Device.modConfig_notices (d : Device) (st : Station) (f : StationConfig → StationConfig) : (d.modConfig st f).notices = d.notices := rfl
@[simp] theorem Device.modConfig_mgmt (d : Device) (st : Station) (f : StationConfig → StationConfig) : (d.modConfig st f).mgmt = d.mgmt := rfl
@[simp] theorem Device.modConfig_uplink (d : Device) (st : Station) (f : StationConfig → StationConfig) : (d.modConfig st f).uplink = d.uplink := rfl
@[simp] theorem Device.modConfig_freeCount (d : Device) (st : Station) (f : StationConfig → StationConfig) : (d.modConfig st f).freeCount = d.freeCount := rfl

/-! ### modAccount -/

@[simp] theorem Device.modAccount_carrierDetect (d : Device) (n : Nat) (f : Account → Account) : (d.modAccount n f).carrierDetect = d.carrierDetect := rfl
@[simp] theorem Device.modAccount_uplinkDetect (d : Device) (n : Nat) (f : Account → Account) : (d.modAccount n f).uplinkDetect = d.uplinkDetect := rfl
@[simp] theorem Device.modAccount_resetAsserted (d : Device) (n : Nat) (f : Account → Account) : (d.modAccount n f).resetAsserted = d.resetAsserted := rfl
@[simp] theorem Device.modAccount_contexts (d : Device) (n : Nat) (f : Account → Account) : (d.modAccount n f).contexts = d.contexts := rfl
@[simp] theorem Device.modAccount_ctx (d : Device) (n : Nat) (f : Account → Account) (x : Station) : (d.modAccount n f).ctx x = d.ctx x := rfl
@[simp] theorem Device.modAccount_paths (d : Device) (n : Nat) (f : Account → Account) : (d.modAccount n f).paths = d.paths := rfl
@[simp] theorem Device.modAccount_path (d : Device) (n : Nat) (f : Account → Account) (x : Station) : (d.modAccount n f).path x = d.path x := rfl
@[simp] theorem Device.modAccount_ports (d : Device) (n : Nat) (f : Account → Account) : (d.modAccount n f).ports = d.ports := rfl
@[simp] theorem Device.modAccount_port (d : Device) (n : Nat) (f : Account → Account) (x : Station) : (d.modAccount n f).port x = d.port x := rfl
@[simp] theorem Device.modAccount_configs (d : Device) (n : Nat) (f : Account → Account) : (d.modAccount n f).configs = d.configs := rfl
@[simp] theorem Device.modAccount_serviceUp (d : Device) (n : Nat) (f : Account → Account) : (d.modAccount n f).serviceUp = d.serviceUp := rfl
@[simp] theorem Device.modAccount_tariff (d : Device) (n : Nat) (f : Account → Account) : (d.modAccount n f).tariff = d.tariff := rfl
@[simp] theorem Device.modAccount_exporting (d : Device) (n : Nat) (f : Account → Account) : (d.modAccount n f).exporting = d.exporting := rfl
@[simp] theorem Device.modAccount_slots (d : Device) (n : Nat) (f : Account → Account) : (d.modAccount n f).slots = d.slots := rfl
@[simp] theorem Device.modAccount_slot (d : Device) (n : Nat) (f : Account → Account) (x : SlotNo) : (d.modAccount n f).slot x = d.slot x := rfl
@[simp] theorem Device.modAccount_payQueue (d : Device) (n : Nat) (f : Account → Account) : (d.modAccount n f).payQueue = d.payQueue := rfl
@[simp] theorem Device.modAccount_outstanding (d : Device) (n : Nat) (f : Account → Account) : (d.modAccount n f).outstanding = d.outstanding := rfl
@[simp] theorem Device.modAccount_staleVoids (d : Device) (n : Nat) (f : Account → Account) : (d.modAccount n f).staleVoids = d.staleVoids := rfl
@[simp] theorem Device.modAccount_payReports (d : Device) (n : Nat) (f : Account → Account) : (d.modAccount n f).payReports = d.payReports := rfl
@[simp] theorem Device.modAccount_reports (d : Device) (n : Nat) (f : Account → Account) : (d.modAccount n f).reports = d.reports := rfl
@[simp] theorem Device.modAccount_notices (d : Device) (n : Nat) (f : Account → Account) : (d.modAccount n f).notices = d.notices := rfl
@[simp] theorem Device.modAccount_mgmt (d : Device) (n : Nat) (f : Account → Account) : (d.modAccount n f).mgmt = d.mgmt := rfl
@[simp] theorem Device.modAccount_uplink (d : Device) (n : Nat) (f : Account → Account) : (d.modAccount n f).uplink = d.uplink := rfl
@[simp] theorem Device.modAccount_freeCount (d : Device) (n : Nat) (f : Account → Account) : (d.modAccount n f).freeCount = d.freeCount := rfl

/-! ### modUplink -/

@[simp] theorem Device.modUplink_carrierDetect (d : Device) (f : Uplink → Uplink) : (d.modUplink f).carrierDetect = d.carrierDetect := rfl
@[simp] theorem Device.modUplink_uplinkDetect (d : Device) (f : Uplink → Uplink) : (d.modUplink f).uplinkDetect = d.uplinkDetect := rfl
@[simp] theorem Device.modUplink_resetAsserted (d : Device) (f : Uplink → Uplink) : (d.modUplink f).resetAsserted = d.resetAsserted := rfl
@[simp] theorem Device.modUplink_contexts (d : Device) (f : Uplink → Uplink) : (d.modUplink f).contexts = d.contexts := rfl
@[simp] theorem Device.modUplink_ctx (d : Device) (f : Uplink → Uplink) (x : Station) : (d.modUplink f).ctx x = d.ctx x := rfl
@[simp] theorem Device.modUplink_paths (d : Device) (f : Uplink → Uplink) : (d.modUplink f).paths = d.paths := rfl
@[simp] theorem Device.modUplink_path (d : Device) (f : Uplink → Uplink) (x : Station) : (d.modUplink f).path x = d.path x := rfl
@[simp] theorem Device.modUplink_ports (d : Device) (f : Uplink → Uplink) : (d.modUplink f).ports = d.ports := rfl
@[simp] theorem Device.modUplink_port (d : Device) (f : Uplink → Uplink) (x : Station) : (d.modUplink f).port x = d.port x := rfl
@[simp] theorem Device.modUplink_configs (d : Device) (f : Uplink → Uplink) : (d.modUplink f).configs = d.configs := rfl
@[simp] theorem Device.modUplink_serviceUp (d : Device) (f : Uplink → Uplink) : (d.modUplink f).serviceUp = d.serviceUp := rfl
@[simp] theorem Device.modUplink_tariff (d : Device) (f : Uplink → Uplink) : (d.modUplink f).tariff = d.tariff := rfl
@[simp] theorem Device.modUplink_accounts (d : Device) (f : Uplink → Uplink) : (d.modUplink f).accounts = d.accounts := rfl
@[simp] theorem Device.modUplink_account (d : Device) (f : Uplink → Uplink) (x : Nat) : (d.modUplink f).account x = d.account x := rfl
@[simp] theorem Device.modUplink_exporting (d : Device) (f : Uplink → Uplink) : (d.modUplink f).exporting = d.exporting := rfl
@[simp] theorem Device.modUplink_slots (d : Device) (f : Uplink → Uplink) : (d.modUplink f).slots = d.slots := rfl
@[simp] theorem Device.modUplink_slot (d : Device) (f : Uplink → Uplink) (x : SlotNo) : (d.modUplink f).slot x = d.slot x := rfl
@[simp] theorem Device.modUplink_payQueue (d : Device) (f : Uplink → Uplink) : (d.modUplink f).payQueue = d.payQueue := rfl
@[simp] theorem Device.modUplink_outstanding (d : Device) (f : Uplink → Uplink) : (d.modUplink f).outstanding = d.outstanding := rfl
@[simp] theorem Device.modUplink_staleVoids (d : Device) (f : Uplink → Uplink) : (d.modUplink f).staleVoids = d.staleVoids := rfl
@[simp] theorem Device.modUplink_payReports (d : Device) (f : Uplink → Uplink) : (d.modUplink f).payReports = d.payReports := rfl
@[simp] theorem Device.modUplink_reports (d : Device) (f : Uplink → Uplink) : (d.modUplink f).reports = d.reports := rfl
@[simp] theorem Device.modUplink_notices (d : Device) (f : Uplink → Uplink) : (d.modUplink f).notices = d.notices := rfl
@[simp] theorem Device.modUplink_mgmt (d : Device) (f : Uplink → Uplink) : (d.modUplink f).mgmt = d.mgmt := rfl
@[simp] theorem Device.modUplink_freeCount (d : Device) (f : Uplink → Uplink) : (d.modUplink f).freeCount = d.freeCount := rfl

/-! ### notice -/

@[simp] theorem Device.notice_carrierDetect (d : Device) (c : NoticeClass) (st : Option Station) : (d.notice c st).carrierDetect = d.carrierDetect := rfl
@[simp] theorem Device.notice_uplinkDetect (d : Device) (c : NoticeClass) (st : Option Station) : (d.notice c st).uplinkDetect = d.uplinkDetect := rfl
@[simp] theorem Device.notice_resetAsserted (d : Device) (c : NoticeClass) (st : Option Station) : (d.notice c st).resetAsserted = d.resetAsserted := rfl
@[simp] theorem Device.notice_contexts (d : Device) (c : NoticeClass) (st : Option Station) : (d.notice c st).contexts = d.contexts := rfl
@[simp] theorem Device.notice_ctx (d : Device) (c : NoticeClass) (st : Option Station) (x : Station) : (d.notice c st).ctx x = d.ctx x := rfl
@[simp] theorem Device.notice_paths (d : Device) (c : NoticeClass) (st : Option Station) : (d.notice c st).paths = d.paths := rfl
@[simp] theorem Device.notice_path (d : Device) (c : NoticeClass) (st : Option Station) (x : Station) : (d.notice c st).path x = d.path x := rfl
@[simp] theorem Device.notice_ports (d : Device) (c : NoticeClass) (st : Option Station) : (d.notice c st).ports = d.ports := rfl
@[simp] theorem Device.notice_port (d : Device) (c : NoticeClass) (st : Option Station) (x : Station) : (d.notice c st).port x = d.port x := rfl
@[simp] theorem Device.notice_configs (d : Device) (c : NoticeClass) (st : Option Station) : (d.notice c st).configs = d.configs := rfl
@[simp] theorem Device.notice_serviceUp (d : Device) (c : NoticeClass) (st : Option Station) : (d.notice c st).serviceUp = d.serviceUp := rfl
@[simp] theorem Device.notice_tariff (d : Device) (c : NoticeClass) (st : Option Station) : (d.notice c st).tariff = d.tariff := rfl
@[simp] theorem Device.notice_accounts (d : Device) (c : NoticeClass) (st : Option Station) : (d.notice c st).accounts = d.accounts := rfl
@[simp] theorem Device.notice_account (d : Device) (c : NoticeClass) (st : Option Station) (x : Nat) : (d.notice c st).account x = d.account x := rfl
@[simp] theorem Device.notice_exporting (d : Device) (c : NoticeClass) (st : Option Station) : (d.notice c st).exporting = d.exporting := rfl
@[simp] theorem Device.notice_slots (d : Device) (c : NoticeClass) (st : Option Station) : (d.notice c st).slots = d.slots := rfl
@[simp] theorem Device.notice_slot (d : Device) (c : NoticeClass) (st : Option Station) (x : SlotNo) : (d.notice c st).slot x = d.slot x := rfl
@[simp] theorem Device.notice_payQueue (d : Device) (c : NoticeClass) (st : Option Station) : (d.notice c st).payQueue = d.payQueue := rfl
@[simp] theorem Device.notice_outstanding (d : Device) (c : NoticeClass) (st : Option Station) : (d.notice c st).outstanding = d.outstanding := rfl
@[simp] theorem Device.notice_staleVoids (d : Device) (c : NoticeClass) (st : Option Station) : (d.notice c st).staleVoids = d.staleVoids := rfl
@[simp] theorem Device.notice_payReports (d : Device) (c : NoticeClass) (st : Option Station) : (d.notice c st).payReports = d.payReports := rfl
@[simp] theorem Device.notice_reports (d : Device) (c : NoticeClass) (st : Option Station) : (d.notice c st).reports = d.reports := rfl
@[simp] theorem Device.notice_mgmt (d : Device) (c : NoticeClass) (st : Option Station) : (d.notice c st).mgmt = d.mgmt := rfl
@[simp] theorem Device.notice_uplink (d : Device) (c : NoticeClass) (st : Option Station) : (d.notice c st).uplink = d.uplink := rfl
@[simp] theorem Device.notice_freeCount (d : Device) (c : NoticeClass) (st : Option Station) : (d.notice c st).freeCount = d.freeCount := rfl

/-! ### heard -/

@[simp] theorem Device.heard_carrierDetect (d : Device) (st : Station) : (d.heard st).carrierDetect = d.carrierDetect := rfl
@[simp] theorem Device.heard_uplinkDetect (d : Device) (st : Station) : (d.heard st).uplinkDetect = d.uplinkDetect := rfl
@[simp] theorem Device.heard_resetAsserted (d : Device) (st : Station) : (d.heard st).resetAsserted = d.resetAsserted := rfl
@[simp] theorem Device.heard_contexts (d : Device) (st : Station) : (d.heard st).contexts = d.contexts := rfl
@[simp] theorem Device.heard_ctx (d : Device) (st : Station) (x : Station) : (d.heard st).ctx x = d.ctx x := rfl
@[simp] theorem Device.heard_paths (d : Device) (st : Station) : (d.heard st).paths = d.paths := rfl
@[simp] theorem Device.heard_path (d : Device) (st : Station) (x : Station) : (d.heard st).path x = d.path x := rfl
@[simp] theorem Device.heard_configs (d : Device) (st : Station) : (d.heard st).configs = d.configs := rfl
@[simp] theorem Device.heard_serviceUp (d : Device) (st : Station) : (d.heard st).serviceUp = d.serviceUp := rfl
@[simp] theorem Device.heard_tariff (d : Device) (st : Station) : (d.heard st).tariff = d.tariff := rfl
@[simp] theorem Device.heard_accounts (d : Device) (st : Station) : (d.heard st).accounts = d.accounts := rfl
@[simp] theorem Device.heard_account (d : Device) (st : Station) (x : Nat) : (d.heard st).account x = d.account x := rfl
@[simp] theorem Device.heard_exporting (d : Device) (st : Station) : (d.heard st).exporting = d.exporting := rfl
@[simp] theorem Device.heard_slots (d : Device) (st : Station) : (d.heard st).slots = d.slots := rfl
@[simp] theorem Device.heard_slot (d : Device) (st : Station) (x : SlotNo) : (d.heard st).slot x = d.slot x := rfl
@[simp] theorem Device.heard_payQueue (d : Device) (st : Station) : (d.heard st).payQueue = d.payQueue := rfl
@[simp] theorem Device.heard_outstanding (d : Device) (st : Station) : (d.heard st).outstanding = d.outstanding := rfl
@[simp] theorem Device.heard_staleVoids (d : Device) (st : Station) : (d.heard st).staleVoids = d.staleVoids := rfl
@[simp] theorem Device.heard_payReports (d : Device) (st : Station) : (d.heard st).payReports = d.payReports := rfl
@[simp] theorem Device.heard_reports (d : Device) (st : Station) : (d.heard st).reports = d.reports := rfl
@[simp] theorem Device.heard_notices (d : Device) (st : Station) : (d.heard st).notices = d.notices := rfl
@[simp] theorem Device.heard_mgmt (d : Device) (st : Station) : (d.heard st).mgmt = d.mgmt := rfl
@[simp] theorem Device.heard_uplink (d : Device) (st : Station) : (d.heard st).uplink = d.uplink := rfl
@[simp] theorem Device.heard_freeCount (d : Device) (st : Station) : (d.heard st).freeCount = d.freeCount := rfl

/-! ### modFaults -/

@[simp] theorem Device.modFaults_carrierDetect (d : Device) (st : Station) (f : Faults → Faults) : (d.modFaults st f).carrierDetect = d.carrierDetect := rfl
@[simp] theorem Device.modFaults_uplinkDetect (d : Device) (st : Station) (f : Faults → Faults) : (d.modFaults st f).uplinkDetect = d.uplinkDetect := rfl
@[simp] theorem Device.modFaults_resetAsserted (d : Device) (st : Station) (f : Faults → Faults) : (d.modFaults st f).resetAsserted = d.resetAsserted := rfl
@[simp] theorem Device.modFaults_paths (d : Device) (st : Station) (f : Faults → Faults) : (d.modFaults st f).paths = d.paths := rfl
@[simp] theorem Device.modFaults_path (d : Device) (st : Station) (f : Faults → Faults) (x : Station) : (d.modFaults st f).path x = d.path x := rfl
@[simp] theorem Device.modFaults_ports (d : Device) (st : Station) (f : Faults → Faults) : (d.modFaults st f).ports = d.ports := rfl
@[simp] theorem Device.modFaults_port (d : Device) (st : Station) (f : Faults → Faults) (x : Station) : (d.modFaults st f).port x = d.port x := rfl
@[simp] theorem Device.modFaults_configs (d : Device) (st : Station) (f : Faults → Faults) : (d.modFaults st f).configs = d.configs := rfl
@[simp] theorem Device.modFaults_serviceUp (d : Device) (st : Station) (f : Faults → Faults) : (d.modFaults st f).serviceUp = d.serviceUp := rfl
@[simp] theorem Device.modFaults_tariff (d : Device) (st : Station) (f : Faults → Faults) : (d.modFaults st f).tariff = d.tariff := rfl
@[simp] theorem Device.modFaults_accounts (d : Device) (st : Station) (f : Faults → Faults) : (d.modFaults st f).accounts = d.accounts := rfl
@[simp] theorem Device.modFaults_account (d : Device) (st : Station) (f : Faults → Faults) (x : Nat) : (d.modFaults st f).account x = d.account x := rfl
@[simp] theorem Device.modFaults_exporting (d : Device) (st : Station) (f : Faults → Faults) : (d.modFaults st f).exporting = d.exporting := rfl
@[simp] theorem Device.modFaults_slots (d : Device) (st : Station) (f : Faults → Faults) : (d.modFaults st f).slots = d.slots := rfl
@[simp] theorem Device.modFaults_slot (d : Device) (st : Station) (f : Faults → Faults) (x : SlotNo) : (d.modFaults st f).slot x = d.slot x := rfl
@[simp] theorem Device.modFaults_payQueue (d : Device) (st : Station) (f : Faults → Faults) : (d.modFaults st f).payQueue = d.payQueue := rfl
@[simp] theorem Device.modFaults_outstanding (d : Device) (st : Station) (f : Faults → Faults) : (d.modFaults st f).outstanding = d.outstanding := rfl
@[simp] theorem Device.modFaults_staleVoids (d : Device) (st : Station) (f : Faults → Faults) : (d.modFaults st f).staleVoids = d.staleVoids := rfl
@[simp] theorem Device.modFaults_payReports (d : Device) (st : Station) (f : Faults → Faults) : (d.modFaults st f).payReports = d.payReports := rfl
@[simp] theorem Device.modFaults_reports (d : Device) (st : Station) (f : Faults → Faults) : (d.modFaults st f).reports = d.reports := rfl
@[simp] theorem Device.modFaults_notices (d : Device) (st : Station) (f : Faults → Faults) : (d.modFaults st f).notices = d.notices := rfl
@[simp] theorem Device.modFaults_mgmt (d : Device) (st : Station) (f : Faults → Faults) : (d.modFaults st f).mgmt = d.mgmt := rfl
@[simp] theorem Device.modFaults_uplink (d : Device) (st : Station) (f : Faults → Faults) : (d.modFaults st f).uplink = d.uplink := rfl
@[simp] theorem Device.modFaults_freeCount (d : Device) (st : Station) (f : Faults → Faults) : (d.modFaults st f).freeCount = d.freeCount := rfl

/-! ### modJob -/

@[simp] theorem Device.modJob_carrierDetect (d : Device) (st : Station) (f : Job → Job) : (d.modJob st f).carrierDetect = d.carrierDetect := rfl
@[simp] theorem Device.modJob_uplinkDetect (d : Device) (st : Station) (f : Job → Job) : (d.modJob st f).uplinkDetect = d.uplinkDetect := rfl
@[simp] theorem Device.modJob_resetAsserted (d : Device) (st : Station) (f : Job → Job) : (d.modJob st f).resetAsserted = d.resetAsserted := rfl
@[simp] theorem Device.modJob_paths (d : Device) (st : Station) (f : Job → Job) : (d.modJob st f).paths = d.paths := rfl
@[simp] theorem Device.modJob_path (d : Device) (st : Station) (f : Job → Job) (x : Station) : (d.modJob st f).path x = d.path x := rfl
@[simp] theorem Device.modJob_ports (d : Device) (st : Station) (f : Job → Job) : (d.modJob st f).ports = d.ports := rfl
@[simp] theorem Device.modJob_port (d : Device) (st : Station) (f : Job → Job) (x : Station) : (d.modJob st f).port x = d.port x := rfl
@[simp] theorem Device.modJob_configs (d : Device) (st : Station) (f : Job → Job) : (d.modJob st f).configs = d.configs := rfl
@[simp] theorem Device.modJob_serviceUp (d : Device) (st : Station) (f : Job → Job) : (d.modJob st f).serviceUp = d.serviceUp := rfl
@[simp] theorem Device.modJob_tariff (d : Device) (st : Station) (f : Job → Job) : (d.modJob st f).tariff = d.tariff := rfl
@[simp] theorem Device.modJob_accounts (d : Device) (st : Station) (f : Job → Job) : (d.modJob st f).accounts = d.accounts := rfl
@[simp] theorem Device.modJob_account (d : Device) (st : Station) (f : Job → Job) (x : Nat) : (d.modJob st f).account x = d.account x := rfl
@[simp] theorem Device.modJob_exporting (d : Device) (st : Station) (f : Job → Job) : (d.modJob st f).exporting = d.exporting := rfl
@[simp] theorem Device.modJob_slots (d : Device) (st : Station) (f : Job → Job) : (d.modJob st f).slots = d.slots := rfl
@[simp] theorem Device.modJob_slot (d : Device) (st : Station) (f : Job → Job) (x : SlotNo) : (d.modJob st f).slot x = d.slot x := rfl
@[simp] theorem Device.modJob_payQueue (d : Device) (st : Station) (f : Job → Job) : (d.modJob st f).payQueue = d.payQueue := rfl
@[simp] theorem Device.modJob_outstanding (d : Device) (st : Station) (f : Job → Job) : (d.modJob st f).outstanding = d.outstanding := rfl
@[simp] theorem Device.modJob_staleVoids (d : Device) (st : Station) (f : Job → Job) : (d.modJob st f).staleVoids = d.staleVoids := rfl
@[simp] theorem Device.modJob_payReports (d : Device) (st : Station) (f : Job → Job) : (d.modJob st f).payReports = d.payReports := rfl
@[simp] theorem Device.modJob_reports (d : Device) (st : Station) (f : Job → Job) : (d.modJob st f).reports = d.reports := rfl
@[simp] theorem Device.modJob_notices (d : Device) (st : Station) (f : Job → Job) : (d.modJob st f).notices = d.notices := rfl
@[simp] theorem Device.modJob_mgmt (d : Device) (st : Station) (f : Job → Job) : (d.modJob st f).mgmt = d.mgmt := rfl
@[simp] theorem Device.modJob_uplink (d : Device) (st : Station) (f : Job → Job) : (d.modJob st f).uplink = d.uplink := rfl
@[simp] theorem Device.modJob_freeCount (d : Device) (st : Station) (f : Job → Job) : (d.modJob st f).freeCount = d.freeCount := rfl

/-! ### modSession -/

@[simp] theorem Device.modSession_carrierDetect (d : Device) (st : Station) (f : Session → Session) : (d.modSession st f).carrierDetect = d.carrierDetect := rfl
@[simp] theorem Device.modSession_uplinkDetect (d : Device) (st : Station) (f : Session → Session) : (d.modSession st f).uplinkDetect = d.uplinkDetect := rfl
@[simp] theorem Device.modSession_resetAsserted (d : Device) (st : Station) (f : Session → Session) : (d.modSession st f).resetAsserted = d.resetAsserted := rfl
@[simp] theorem Device.modSession_paths (d : Device) (st : Station) (f : Session → Session) : (d.modSession st f).paths = d.paths := rfl
@[simp] theorem Device.modSession_path (d : Device) (st : Station) (f : Session → Session) (x : Station) : (d.modSession st f).path x = d.path x := rfl
@[simp] theorem Device.modSession_ports (d : Device) (st : Station) (f : Session → Session) : (d.modSession st f).ports = d.ports := rfl
@[simp] theorem Device.modSession_port (d : Device) (st : Station) (f : Session → Session) (x : Station) : (d.modSession st f).port x = d.port x := rfl
@[simp] theorem Device.modSession_configs (d : Device) (st : Station) (f : Session → Session) : (d.modSession st f).configs = d.configs := rfl
@[simp] theorem Device.modSession_serviceUp (d : Device) (st : Station) (f : Session → Session) : (d.modSession st f).serviceUp = d.serviceUp := rfl
@[simp] theorem Device.modSession_tariff (d : Device) (st : Station) (f : Session → Session) : (d.modSession st f).tariff = d.tariff := rfl
@[simp] theorem Device.modSession_accounts (d : Device) (st : Station) (f : Session → Session) : (d.modSession st f).accounts = d.accounts := rfl
@[simp] theorem Device.modSession_account (d : Device) (st : Station) (f : Session → Session) (x : Nat) : (d.modSession st f).account x = d.account x := rfl
@[simp] theorem Device.modSession_exporting (d : Device) (st : Station) (f : Session → Session) : (d.modSession st f).exporting = d.exporting := rfl
@[simp] theorem Device.modSession_slots (d : Device) (st : Station) (f : Session → Session) : (d.modSession st f).slots = d.slots := rfl
@[simp] theorem Device.modSession_slot (d : Device) (st : Station) (f : Session → Session) (x : SlotNo) : (d.modSession st f).slot x = d.slot x := rfl
@[simp] theorem Device.modSession_payQueue (d : Device) (st : Station) (f : Session → Session) : (d.modSession st f).payQueue = d.payQueue := rfl
@[simp] theorem Device.modSession_outstanding (d : Device) (st : Station) (f : Session → Session) : (d.modSession st f).outstanding = d.outstanding := rfl
@[simp] theorem Device.modSession_staleVoids (d : Device) (st : Station) (f : Session → Session) : (d.modSession st f).staleVoids = d.staleVoids := rfl
@[simp] theorem Device.modSession_payReports (d : Device) (st : Station) (f : Session → Session) : (d.modSession st f).payReports = d.payReports := rfl
@[simp] theorem Device.modSession_reports (d : Device) (st : Station) (f : Session → Session) : (d.modSession st f).reports = d.reports := rfl
@[simp] theorem Device.modSession_notices (d : Device) (st : Station) (f : Session → Session) : (d.modSession st f).notices = d.notices := rfl
@[simp] theorem Device.modSession_mgmt (d : Device) (st : Station) (f : Session → Session) : (d.modSession st f).mgmt = d.mgmt := rfl
@[simp] theorem Device.modSession_uplink (d : Device) (st : Station) (f : Session → Session) : (d.modSession st f).uplink = d.uplink := rfl
@[simp] theorem Device.modSession_freeCount (d : Device) (st : Station) (f : Session → Session) : (d.modSession st f).freeCount = d.freeCount := rfl

/-! ### modMeters -/

@[simp] theorem Device.modMeters_carrierDetect (d : Device) (st : Station) (f : Meters → Meters) : (d.modMeters st f).carrierDetect = d.carrierDetect := rfl
@[simp] theorem Device.modMeters_uplinkDetect (d : Device) (st : Station) (f : Meters → Meters) : (d.modMeters st f).uplinkDetect = d.uplinkDetect := rfl
@[simp] theorem Device.modMeters_resetAsserted (d : Device) (st : Station) (f : Meters → Meters) : (d.modMeters st f).resetAsserted = d.resetAsserted := rfl
@[simp] theorem Device.modMeters_paths (d : Device) (st : Station) (f : Meters → Meters) : (d.modMeters st f).paths = d.paths := rfl
@[simp] theorem Device.modMeters_path (d : Device) (st : Station) (f : Meters → Meters) (x : Station) : (d.modMeters st f).path x = d.path x := rfl
@[simp] theorem Device.modMeters_ports (d : Device) (st : Station) (f : Meters → Meters) : (d.modMeters st f).ports = d.ports := rfl
@[simp] theorem Device.modMeters_port (d : Device) (st : Station) (f : Meters → Meters) (x : Station) : (d.modMeters st f).port x = d.port x := rfl
@[simp] theorem Device.modMeters_configs (d : Device) (st : Station) (f : Meters → Meters) : (d.modMeters st f).configs = d.configs := rfl
@[simp] theorem Device.modMeters_serviceUp (d : Device) (st : Station) (f : Meters → Meters) : (d.modMeters st f).serviceUp = d.serviceUp := rfl
@[simp] theorem Device.modMeters_tariff (d : Device) (st : Station) (f : Meters → Meters) : (d.modMeters st f).tariff = d.tariff := rfl
@[simp] theorem Device.modMeters_accounts (d : Device) (st : Station) (f : Meters → Meters) : (d.modMeters st f).accounts = d.accounts := rfl
@[simp] theorem Device.modMeters_account (d : Device) (st : Station) (f : Meters → Meters) (x : Nat) : (d.modMeters st f).account x = d.account x := rfl
@[simp] theorem Device.modMeters_exporting (d : Device) (st : Station) (f : Meters → Meters) : (d.modMeters st f).exporting = d.exporting := rfl
@[simp] theorem Device.modMeters_slots (d : Device) (st : Station) (f : Meters → Meters) : (d.modMeters st f).slots = d.slots := rfl
@[simp] theorem Device.modMeters_slot (d : Device) (st : Station) (f : Meters → Meters) (x : SlotNo) : (d.modMeters st f).slot x = d.slot x := rfl
@[simp] theorem Device.modMeters_payQueue (d : Device) (st : Station) (f : Meters → Meters) : (d.modMeters st f).payQueue = d.payQueue := rfl
@[simp] theorem Device.modMeters_outstanding (d : Device) (st : Station) (f : Meters → Meters) : (d.modMeters st f).outstanding = d.outstanding := rfl
@[simp] theorem Device.modMeters_staleVoids (d : Device) (st : Station) (f : Meters → Meters) : (d.modMeters st f).staleVoids = d.staleVoids := rfl
@[simp] theorem Device.modMeters_payReports (d : Device) (st : Station) (f : Meters → Meters) : (d.modMeters st f).payReports = d.payReports := rfl
@[simp] theorem Device.modMeters_reports (d : Device) (st : Station) (f : Meters → Meters) : (d.modMeters st f).reports = d.reports := rfl
@[simp] theorem Device.modMeters_notices (d : Device) (st : Station) (f : Meters → Meters) : (d.modMeters st f).notices = d.notices := rfl
@[simp] theorem Device.modMeters_mgmt (d : Device) (st : Station) (f : Meters → Meters) : (d.modMeters st f).mgmt = d.mgmt := rfl
@[simp] theorem Device.modMeters_uplink (d : Device) (st : Station) (f : Meters → Meters) : (d.modMeters st f).uplink = d.uplink := rfl
@[simp] theorem Device.modMeters_freeCount (d : Device) (st : Station) (f : Meters → Meters) : (d.modMeters st f).freeCount = d.freeCount := rfl

/-! ### enter -/

@[simp] theorem Device.enter_carrierDetect (d : Device) (st : Station) (s : StationState) : (d.enter st s).carrierDetect = d.carrierDetect := rfl
@[simp] theorem Device.enter_uplinkDetect (d : Device) (st : Station) (s : StationState) : (d.enter st s).uplinkDetect = d.uplinkDetect := rfl
@[simp] theorem Device.enter_resetAsserted (d : Device) (st : Station) (s : StationState) : (d.enter st s).resetAsserted = d.resetAsserted := rfl
@[simp] theorem Device.enter_paths (d : Device) (st : Station) (s : StationState) : (d.enter st s).paths = d.paths := rfl
@[simp] theorem Device.enter_path (d : Device) (st : Station) (s : StationState) (x : Station) : (d.enter st s).path x = d.path x := rfl
@[simp] theorem Device.enter_ports (d : Device) (st : Station) (s : StationState) : (d.enter st s).ports = d.ports := rfl
@[simp] theorem Device.enter_port (d : Device) (st : Station) (s : StationState) (x : Station) : (d.enter st s).port x = d.port x := rfl
@[simp] theorem Device.enter_configs (d : Device) (st : Station) (s : StationState) : (d.enter st s).configs = d.configs := rfl
@[simp] theorem Device.enter_serviceUp (d : Device) (st : Station) (s : StationState) : (d.enter st s).serviceUp = d.serviceUp := rfl
@[simp] theorem Device.enter_tariff (d : Device) (st : Station) (s : StationState) : (d.enter st s).tariff = d.tariff := rfl
@[simp] theorem Device.enter_accounts (d : Device) (st : Station) (s : StationState) : (d.enter st s).accounts = d.accounts := rfl
@[simp] theorem Device.enter_account (d : Device) (st : Station) (s : StationState) (x : Nat) : (d.enter st s).account x = d.account x := rfl
@[simp] theorem Device.enter_exporting (d : Device) (st : Station) (s : StationState) : (d.enter st s).exporting = d.exporting := rfl
@[simp] theorem Device.enter_slots (d : Device) (st : Station) (s : StationState) : (d.enter st s).slots = d.slots := rfl
@[simp] theorem Device.enter_slot (d : Device) (st : Station) (s : StationState) (x : SlotNo) : (d.enter st s).slot x = d.slot x := rfl
@[simp] theorem Device.enter_payQueue (d : Device) (st : Station) (s : StationState) : (d.enter st s).payQueue = d.payQueue := rfl
@[simp] theorem Device.enter_outstanding (d : Device) (st : Station) (s : StationState) : (d.enter st s).outstanding = d.outstanding := rfl
@[simp] theorem Device.enter_staleVoids (d : Device) (st : Station) (s : StationState) : (d.enter st s).staleVoids = d.staleVoids := rfl
@[simp] theorem Device.enter_payReports (d : Device) (st : Station) (s : StationState) : (d.enter st s).payReports = d.payReports := rfl
@[simp] theorem Device.enter_reports (d : Device) (st : Station) (s : StationState) : (d.enter st s).reports = d.reports := rfl
@[simp] theorem Device.enter_notices (d : Device) (st : Station) (s : StationState) : (d.enter st s).notices = d.notices := rfl
@[simp] theorem Device.enter_mgmt (d : Device) (st : Station) (s : StationState) : (d.enter st s).mgmt = d.mgmt := rfl
@[simp] theorem Device.enter_uplink (d : Device) (st : Station) (s : StationState) : (d.enter st s).uplink = d.uplink := rfl
@[simp] theorem Device.enter_freeCount (d : Device) (st : Station) (s : StationState) : (d.enter st s).freeCount = d.freeCount := rfl

/-! ### The record changed -/

@[simp] theorem Device.ctx_modCtx (d : Device) (st : Station) (f : Context → Context) :
    (d.modCtx st f).ctx st = f (d.ctx st) := update_self _ _ _

theorem Device.ctx_modCtx_ne (d : Device) (st x : Station) (f : Context → Context) (h : x ≠ st) :
    (d.modCtx st f).ctx x = d.ctx x := update_ne _ _ _ _ h

@[simp] theorem Device.path_setPath (d : Device) (st : Station) (p : List PathEntry) : (d.setPath st p).path st = p := by
  simp [Device.path, Device.setPath]

theorem Device.path_setPath_ne (d : Device) (st x : Station) (p : List PathEntry) (h : x ≠ st) :
    (d.setPath st p).path x = d.path x := by
  have : st.val ≠ x.val := fun e => h (Fin.ext e.symm)
  simp [Device.path, Device.setPath, this]

@[simp] theorem Device.port_modPort (d : Device) (st : Station) (f : Port → Port) :
    (d.modPort st f).port st = f (d.port st) := update_self _ _ _

theorem Device.port_modPort_ne (d : Device) (st x : Station) (f : Port → Port) (h : x ≠ st) :
    (d.modPort st f).port x = d.port x := update_ne _ _ _ _ h

@[simp] theorem Device.slot_modSlot (d : Device) (i : SlotNo) (f : Slot → Slot) :
    (d.modSlot i f).slot i = f (d.slot i) := update_self _ _ _

theorem Device.slot_modSlot_ne (d : Device) (i x : SlotNo) (f : Slot → Slot) (h : x ≠ i) :
    (d.modSlot i f).slot x = d.slot x := update_ne _ _ _ _ h

@[simp] theorem Device.configs_modConfig (d : Device) (st : Station) (f : StationConfig → StationConfig) :
    (d.modConfig st f).configs[st] = f d.configs[st] := update_self _ _ _

theorem Device.configs_modConfig_ne (d : Device) (st x : Station) (f : StationConfig → StationConfig) (h : x ≠ st) :
    (d.modConfig st f).configs[x] = d.configs[x] := update_ne _ _ _ _ h

/-- A change of one entry that keeps its number changes that entry. -/
theorem Device.account_modAccount (d : Device) (n : Nat) (f : Account → Account)
    (h : ∀ a, (f a).number = a.number) : (d.modAccount n f).account n = (d.account n).map f := by
  simp only [Device.account, Device.modAccount, findAccount, Sys2Proof.Machine.modAccount]
  induction d.accounts with
  | nil => rfl
  | cons a rest ih =>
    by_cases e : a.number = n
    · simp [e, h]
    · simp only [List.map_cons, e, if_false, beq_iff_eq, not_false_eq_true, List.find?_cons_of_neg]
      exact ih

/-- A change of one entry that keeps its number leaves the other entries. -/
theorem Device.account_modAccount_ne (d : Device) (n m : Nat) (f : Account → Account)
    (h : ∀ a, (f a).number = a.number) (hm : m ≠ n) : (d.modAccount n f).account m = d.account m := by
  simp only [Device.account, Device.modAccount, findAccount, Sys2Proof.Machine.modAccount]
  induction d.accounts with
  | nil => rfl
  | cons a rest ih =>
    by_cases e : a.number = m
    · have : a.number ≠ n := fun e2 => hm (e.symm.trans e2)
      simp [e, hm]
    · by_cases e2 : a.number = n
      · simp only [List.map_cons, e2, if_true, beq_iff_eq, h, hm.symm, not_false_eq_true, List.find?_cons_of_neg]
        exact ih
      · simp only [List.map_cons, e2, if_false, beq_iff_eq, e, not_false_eq_true, List.find?_cons_of_neg]
        exact ih

theorem Device.accounts_length_modAccount (d : Device) (n : Nat) (f : Account → Account) :
    (d.modAccount n f).accounts.length = d.accounts.length := by
  simp [Device.modAccount, Sys2Proof.Machine.modAccount]

/-! ### Waiting lists -/

@[simp] theorem Account.number_addWaiter (a : Account) (w : WaitItem) : (a.addWaiter w).number = a.number := by
  unfold Account.addWaiter; split <;> rfl

/-- R92: a station that joins a waiting list is on it once. -/
theorem Account.addWaiter_apart (a : Account) (w : WaitItem) (h : (a.waiting.map (·.station)).Nodup) :
    ((a.addWaiter w).waiting.map (·.station)).Nodup := by
  unfold Account.addWaiter
  split
  · exact h
  · rename_i k
    simp only [List.any_eq_true, beq_iff_eq, not_exists, not_and] at k
    simp only [List.map_append, List.map_cons, List.map_nil]
    rw [List.nodup_append]
    refine ⟨h, by simp, ?_⟩
    intro x hx y hy
    obtain ⟨v, hv, rfl⟩ := List.mem_map.mp hx
    have := k v hv
    rw [List.mem_singleton] at hy
    subst hy
    exact this

/-- A station that is not on a waiting list joins it at its tail. -/
theorem Account.addWaiter_of_absent (a : Account) (w : WaitItem) (h : ∀ x ∈ a.waiting, x.station ≠ w.station) :
    a.addWaiter w = { a with waiting := a.waiting ++ [w] } := by
  unfold Account.addWaiter
  rw [if_neg]
  simp only [List.any_eq_true, beq_iff_eq, not_exists, not_and]
  exact h

/-- R92: a station that leaves a waiting list leaves the others apart. -/
theorem Account.dropWaiter_apart (a : Account) (st : Station) (h : (a.waiting.map (·.station)).Nodup) :
    ((a.dropWaiter st).waiting.map (·.station)).Nodup := by
  unfold Account.dropWaiter
  exact h.sublist (List.filter_sublist.map _)

/-- R93: what `serveList` grants and leaves is what the rule gives. -/
theorem serveList_serves (size available : Nat) (l : List WaitItem) :
    Serves size available l (serveList size available l).1 (serveList size available l).2 := by
  induction l generalizing available with
  | nil => exact ⟨rfl, rfl⟩
  | cons w rest ih =>
    unfold serveList Serves
    by_cases h : w.oneSheetPrice ≤ available
    · rw [if_pos h]
      exact .inr ⟨h, _, rfl, ih _⟩
    · rw [if_neg h]
      exact .inl ⟨by omega, rfl, rfl⟩

/-- R93: what the service of a list leaves is its tail. -/
theorem serveList_suffix (size available : Nat) (l : List WaitItem) : (serveList size available l).2 <:+ l := by
  induction l generalizing available with
  | nil => exact List.suffix_refl _
  | cons w rest ih =>
    unfold serveList
    split
    · exact (ih _).trans (List.suffix_cons w rest)
    · exact List.suffix_refl _

/-! ### Items by rising key -/

theorem insertByKey_perm {α : Type} (key : α → Nat) (i : α) (l : List α) : (insertByKey key i l).Perm (i :: l) := by
  induction l with
  | nil => exact List.Perm.refl _
  | cons j rest ih =>
    unfold insertByKey
    split
    · exact (ih.cons j).trans (List.Perm.swap i j rest)
    · exact List.Perm.refl _

/-- Whatever the keys are, the items are the same. -/
theorem sortByKey_perm {α : Type} (key : α → Nat) (l : List α) : (sortByKey key l).Perm l := by
  induction l with
  | nil => exact List.Perm.refl _
  | cons i rest ih => exact (insertByKey_perm key i _).trans (ih.cons i)

/-! ### Equal changes -/

theorem Device.modCtx_congr (d : Device) (st : Station) (f g : Context → Context) (h : f (d.ctx st) = g (d.ctx st)) :
    d.modCtx st f = d.modCtx st g := by
  simp only [Device.ctx] at h; simp only [Device.modCtx, update, h]

theorem Device.modCtx_eq_self (d : Device) (st : Station) (f : Context → Context) (h : f (d.ctx st) = d.ctx st) : d.modCtx st f = d := by
  simp only [Device.ctx] at h; simp only [Device.modCtx, update, h]; simp

theorem Device.modCtx_modCtx (d : Device) (st : Station) (f g : Context → Context) :
    (d.modCtx st f).modCtx st g = d.modCtx st fun x => g (f x) := by
  simp [Device.modCtx, update]

theorem Device.modPort_congr (d : Device) (st : Station) (f g : Port → Port) (h : f (d.port st) = g (d.port st)) :
    d.modPort st f = d.modPort st g := by
  simp only [Device.port] at h; simp only [Device.modPort, update, h]

theorem Device.modPort_eq_self (d : Device) (st : Station) (f : Port → Port) (h : f (d.port st) = d.port st) : d.modPort st f = d := by
  simp only [Device.port] at h; simp only [Device.modPort, update, h]; simp

theorem Device.modPort_modPort (d : Device) (st : Station) (f g : Port → Port) :
    (d.modPort st f).modPort st g = d.modPort st fun x => g (f x) := by
  simp [Device.modPort, update]

theorem Device.modSlot_congr (d : Device) (st : SlotNo) (f g : Slot → Slot) (h : f (d.slot st) = g (d.slot st)) :
    d.modSlot st f = d.modSlot st g := by
  simp only [Device.slot] at h; simp only [Device.modSlot, update, h]

theorem Device.modSlot_eq_self (d : Device) (st : SlotNo) (f : Slot → Slot) (h : f (d.slot st) = d.slot st) : d.modSlot st f = d := by
  simp only [Device.slot] at h; simp only [Device.modSlot, update, h]; simp

theorem Device.modSlot_modSlot (d : Device) (st : SlotNo) (f g : Slot → Slot) :
    (d.modSlot st f).modSlot st g = d.modSlot st fun x => g (f x) := by
  simp [Device.modSlot, update]

/-! ### The parts of a context -/

@[simp] theorem Device.ctx_enter (d : Device) (st : Station) (s : StationState) :
    (d.enter st s).ctx st =
      { d.ctx st with state := s, dozeTimer := none, idleTimer := none, waitTimer := none, jamTimer := none } :=
  d.ctx_modCtx st _

@[simp] theorem Device.ctx_modJob (d : Device) (st : Station) (f : Job → Job) :
    (d.modJob st f).ctx st = { d.ctx st with job := (d.ctx st).job.map f } := d.ctx_modCtx st _

@[simp] theorem Device.ctx_modSession (d : Device) (st : Station) (f : Session → Session) :
    (d.modSession st f).ctx st = { d.ctx st with session := (d.ctx st).session.map f } := d.ctx_modCtx st _

@[simp] theorem Device.ctx_modMeters (d : Device) (st : Station) (f : Meters → Meters) :
    (d.modMeters st f).ctx st = { d.ctx st with meters := f (d.ctx st).meters } := d.ctx_modCtx st _

@[simp] theorem Device.ctx_modFaults (d : Device) (st : Station) (f : Faults → Faults) :
    (d.modFaults st f).ctx st = { d.ctx st with faults := f (d.ctx st).faults } := d.ctx_modCtx st _

@[simp] theorem Device.port_heard (d : Device) (st : Station) : (d.heard st).port st = (d.port st).endReception :=
  d.port_modPort st _

@[simp] theorem Device.port_transmit (d : Device) (st : Station) : (d.transmit st).port st = (d.port st).beginIfReady :=
  d.port_modPort st _

theorem Device.port_transmit_ne (d : Device) (st x : Station) (h : x ≠ st) : (d.transmit st).port x = d.port x :=
  d.port_modPort_ne st x _ h

@[simp] theorem Device.notices_notice (d : Device) (c : NoticeClass) (st : Option Station) :
    (d.notice c st).notices = d.notices.occur c st := rfl

/-! ### A state -/

@[simp] theorem State.lift_pending (s : State) (d : Device) : (s.lift d).pending = s.pending := rfl

@[simp] theorem State.lift_toDevice (s : State) (d : Device) : (s.lift d).toDevice = d := rfl

theorem State.onDevice_eq (s : State) (f : Device → Device) : s.onDevice f = .next (s.lift (f s.toDevice)) := rfl

/-! ### The guards -/

theorem Device.running_of_works (d : Device) (f : Device → Device) (h : d.Works) : d.running f = f d := by
  simp [Device.running, show d.resetAsserted = false from h]

theorem Device.running_of_reset (d : Device) (f : Device → Device) (h : d.resetAsserted = true) : d.running f = d := by
  simp [Device.running, h]

/-- A station frame that the part takes: its effect, and then the transmitter begins. -/
theorem Device.receiveStation_of_hears (d : Device) (st : Station) (f : Device → Device) (h : d.Hears st) :
    d.receiveStation st f = (f (d.heard st)).transmit st := by
  obtain ⟨h1, hr, h2, h3⟩ := h
  have h1 : d.resetAsserted = false := h1
  simp [Device.receiveStation, Device.running, h1, Port.receives, Port.lineFree, hr, h2, h3, Device.heard]

/-- A station frame whose start delimiter has not been taken is passed over. -/
theorem Device.receiveStation_of_waiting (d : Device) (st : Station) (f : Device → Device)
    (h : (d.port st).receiver = .waiting) : d.receiveStation st f = d := by
  simp [Device.receiveStation, Device.running, Port.receives, h]

/-- An uplink frame that the part takes. -/
theorem Device.receiveUplink_of_hears (d : Device) (f : Device → Device) (h : d.HearsUplink) :
    d.receiveUplink f = f d.heardUplink := by
  obtain ⟨h1, hr, h2⟩ := h
  have h1 : d.resetAsserted = false := h1
  simp [Device.receiveUplink, Device.running, h1, Uplink.receives, hr, h2, Device.heardUplink]

/-- An uplink frame whose start delimiter has not been taken is passed over. -/
theorem Device.receiveUplink_of_waiting (d : Device) (f : Device → Device) (h : d.uplink.receiver = .waiting) :
    d.receiveUplink f = d := by
  simp [Device.receiveUplink, Device.running, Uplink.receives, h]

/-- A good frame of a station that is not in DOZE is taken by the part as `awake` leaves it. -/
theorem Device.stationFrame_of_hears (d : Device) (st : Station) (w : Option WakeClass) (f : Device → Device)
    (h : d.Hears st) (hd : (d.ctx st).state ≠ .doze) : d.stationFrame st w f = (f (d.awake st)).transmit st := by
  rw [Device.stationFrame, Device.receiveStation_of_hears d st _ h]
  unfold Device.present Device.awake
  rw [Device.heard_ctx]
  cases hs : (d.ctx st).state <;> first | rfl | exact absurd hs hd

end Sys2Proof.Machine
end

