-- ==== Sys2Proof/Laws/Steady.lean ====
section
/-! SUPPORT. What the shared operations of the session engine, the path tracker, the account table and the payment unit can
do to the rest of the part: nothing to the pins, the configuration records, the management unit, the uplink port, the export
state, the SERVICE_UP queue, the stale-void list and the size of the account table; and they keep the part safe. One lemma
for each operation, so that no later proof unfolds one. -/

namespace Sys2Proof.Machine

/-- What an operation within a step leaves alone, and that it keeps the part safe. -/
structure Device.Steady (d t : Device) : Prop where
  carrierDetect : t.carrierDetect = d.carrierDetect
  uplinkDetect : t.uplinkDetect = d.uplinkDetect
  resetAsserted : t.resetAsserted = d.resetAsserted
  configs : t.configs = d.configs
  serviceUp : t.serviceUp = d.serviceUp
  exporting : t.exporting = d.exporting
  staleVoids : t.staleVoids = d.staleVoids
  mgmt : t.mgmt = d.mgmt
  uplink : t.uplink = d.uplink
  freeCount : t.freeCount = d.freeCount
  accounts : t.accounts.length = d.accounts.length
  safe : d.Safe → t.Safe

namespace Device.Steady

variable {a b c d t : Device} {st : Station} {i : SlotNo}

theorem refl (d : Device) : d.Steady d := ⟨rfl, rfl, rfl, rfl, rfl, rfl, rfl, rfl, rfl, rfl, rfl, id⟩

theorem trans (h : a.Steady b) (k : b.Steady c) : a.Steady c :=
  ⟨k.1.trans h.1, k.2.trans h.2, k.3.trans h.3, k.4.trans h.4, k.5.trans h.5, k.6.trans h.6, k.7.trans h.7,
   k.8.trans h.8, k.9.trans h.9, k.10.trans h.10, k.11.trans h.11, fun s => k.12 (h.12 s)⟩

/-- A change of contexts, slots, the payment request queue, the outstanding count, the reports under way, the tariff unit
and the fields of account entries is steady. -/
theorem quiet (h1 : t.carrierDetect = d.carrierDetect) (h2 : t.uplinkDetect = d.uplinkDetect)
    (h3 : t.resetAsserted = d.resetAsserted) (h4 : t.configs = d.configs) (h5 : t.serviceUp = d.serviceUp)
    (h6 : t.exporting = d.exporting) (h7 : t.staleVoids = d.staleVoids) (h8 : t.mgmt = d.mgmt)
    (h9 : t.uplink = d.uplink) (h10 : t.freeCount = d.freeCount) (h11 : t.accounts.length = d.accounts.length)
    (h12 : t.ports = d.ports) (h13 : t.paths = d.paths) (h14 : t.reports = d.reports)
    (h15 : t.notices = d.notices) : d.Steady t := by
  refine ⟨h1, h2, h3, h4, h5, h6, h7, h8, h9, h10, h11, fun s => ⟨?_, ?_, h15 ▸ s.notices⟩⟩
  · intro x; have := s.lines x; simpa only [Device.port, h12] using this
  · have k := s.capacity
    exact ⟨fun x => by simpa only [Device.port, h12] using k.ports x, fun x => by simpa only [Device.path, h13] using k.paths x,
      h5 ▸ k.serviceUp, h14 ▸ k.reports, fun x => h14 ▸ k.reportsOf x, h7 ▸ k.staleVoids, h8 ▸ k.input, h8 ▸ k.replies,
      by rw [h11]; exact k.accounts⟩

/-! ### The elementary updates -/

theorem modCtx (d : Device) (st : Station) (f : Context → Context) : d.Steady (d.modCtx st f) :=
  quiet rfl rfl rfl rfl rfl rfl rfl rfl rfl rfl rfl rfl rfl rfl rfl

theorem modSlot (d : Device) (i : SlotNo) (f : Slot → Slot) : d.Steady (d.modSlot i f) :=
  quiet rfl rfl rfl rfl rfl rfl rfl rfl rfl rfl rfl rfl rfl rfl rfl

theorem modAccount (d : Device) (n : Nat) (f : Account → Account) : d.Steady (d.modAccount n f) :=
  quiet rfl rfl rfl rfl rfl rfl rfl rfl rfl rfl (accounts_length_modAccount d n f) rfl rfl rfl rfl

theorem modFaults (d : Device) (st : Station) (f : Faults → Faults) : d.Steady (d.modFaults st f) := modCtx d st _

theorem modJob (d : Device) (st : Station) (f : Job → Job) : d.Steady (d.modJob st f) := modCtx d st _

theorem modSession (d : Device) (st : Station) (f : Session → Session) : d.Steady (d.modSession st f) := modCtx d st _

theorem modMeters (d : Device) (st : Station) (f : Meters → Meters) : d.Steady (d.modMeters st f) := modCtx d st _

theorem enter (d : Device) (st : Station) (s : StationState) : d.Steady (d.enter st s) := modCtx d st _

/-! ### Notices -/

theorem anyLive_iff (n : Notices) : n.anyLive = true ↔ ∃ c, n.live c = true := by
  unfold Notices.anyLive classNumbers
  rw [List.any_eq_true]
  exact ⟨fun ⟨c, _, h⟩ => ⟨c, h⟩, fun ⟨c, h⟩ => ⟨c, by fin_cases c <;> simp, h⟩⟩

/-- R193, R194: an occurrence keeps the law of the notice-waiting flag. -/
theorem occur_lawful (n : Notices) (c : NoticeClass) (x : Option Station) (h : n.Lawful) : (n.occur c x).Lawful := by
  unfold Notices.occur
  intro hw
  split at hw
  · rename_i hp
    simp only [hp, if_true]
    exact h hw
  · rename_i hp
    simp only [hp]
    simp only at hw
    split at hw
    · rename_i hl
      rw [if_pos hl]
      rw [anyLive_iff]
      exact ⟨c.index, hl⟩
    · rename_i hl
      rw [if_neg hl]
      rw [anyLive_iff]
      obtain ⟨k, hk⟩ := (anyLive_iff n).mp (h hw)
      refine ⟨k, ?_⟩
      simp only [Notices.live, Bool.and_eq_true] at hk ⊢
      refine ⟨⟨hk.1.1, ?_⟩, hk.2⟩
      by_cases e : c.index.val = k.val
      · simp [e]
      · simpa [Vector.getElem_set, e] using hk.1.2

theorem notice (d : Device) (c : NoticeClass) (x : Option Station) : d.Steady (d.notice c x) :=
  ⟨rfl, rfl, rfl, rfl, rfl, rfl, rfl, rfl, rfl, rfl, rfl, fun s =>
    ⟨s.lines, ⟨s.capacity.ports, s.capacity.paths, s.capacity.serviceUp, s.capacity.reports, s.capacity.reportsOf,
      s.capacity.staleVoids, s.capacity.input, s.capacity.replies, s.capacity.accounts⟩, occur_lawful _ _ _ s.notices⟩⟩

theorem linkFault (d : Device) (st : Station) : d.Steady (d.linkFault st) := (modFaults _ _ _).trans (notice _ _ _)

theorem protocolFault (d : Device) (st : Station) : d.Steady (d.protocolFault st) := (modFaults _ _ _).trans (notice _ _ _)

theorem protocolFaultIf (d : Device) (p : Bool) (st : Station) : d.Steady (d.protocolFaultIf p st) := by
  unfold Device.protocolFaultIf; split
  · exact protocolFault d st
  · exact refl d

theorem pathFullFault (d : Device) (st : Station) : d.Steady (d.pathFullFault st) := modFaults _ _ _

theorem uplinkDropFault (d : Device) (st : Station) : d.Steady (d.uplinkDropFault st) := (modFaults _ _ _).trans (notice _ _ _)

theorem shortfallFault (d : Device) (st : Station) : d.Steady (d.shortfallFault st) := (modFaults _ _ _).trans (notice _ _ _)

/-! ### Ports -/

/-- A change of one port that keeps its line sound and its queues within their sizes. -/
theorem modPort (d : Device) (st : Station) (f : Port → Port)
    (h : (d.port st).LineSound → (f (d.port st)).LineSound) (k : (d.port st).LineSound → (d.port st).Fits → (f (d.port st)).Fits) :
    d.Steady (d.modPort st f) := by
  refine ⟨rfl, rfl, rfl, rfl, rfl, rfl, rfl, rfl, rfl, rfl, rfl, fun s => ⟨?_, ⟨?_, s.capacity.paths,
    s.capacity.serviceUp, s.capacity.reports, s.capacity.reportsOf, s.capacity.staleVoids, s.capacity.input,
    s.capacity.replies, s.capacity.accounts⟩, s.notices⟩⟩
  · intro x
    by_cases e : x = st
    · subst e; rw [port_modPort]; exact h (s.lines x)
    · rw [port_modPort_ne d st x f e]; exact s.lines x
  · intro x
    by_cases e : x = st
    · subst e; rw [port_modPort]; exact k (s.lines x) (s.capacity.ports x)
    · rw [port_modPort_ne d st x f e]; exact s.capacity.ports x

theorem send (d : Device) (st : Station) (f : StationFrame) : d.Steady (d.send st f) := by
  unfold Device.send
  split
  · exact refl d
  · rename_i hc
    split
    · exact notice d _ _
    · rename_i hl
      refine modPort d st _ (fun l => ⟨l.hears, fun h => absurd h hc⟩) (fun _ k => ⟨?_, k.text⟩)
      simp only [List.length_append, List.length_singleton]
      omega

theorem beginNext_sound (p : Port) (h : p.receiver = .waiting) (l : p.LineSound) : p.beginNext.LineSound := by
  unfold Port.beginNext
  split
  · refine ⟨fun e => ?_, fun e => ?_⟩
    · simp [h] at e
    · rename_i f rest _ hq; have := (l.silent e).1; simp [hq] at this
  · refine ⟨fun e => ?_, fun e => ?_⟩
    · simp [h] at e
    · rename_i t rest ho hq; have := (l.silent e).2.1; simp [hq] at this
  · rename_i ho ht
    exact ⟨fun e => by simp [h] at e, fun _ => ⟨ho, ht, rfl⟩⟩

theorem beginNext_fits (p : Port) (k : p.Fits) : p.beginNext.Fits := by
  obtain ⟨k1, k2⟩ := k
  unfold Port.beginNext
  split
  · rename_i hq; rw [hq] at k1; simp only [List.length_cons] at k1; exact ⟨by simp only; omega, k2⟩
  · rename_i ho hq; rw [hq] at k2; simp only [List.length_cons] at k2; exact ⟨k1, by simp only; omega⟩
  · exact ⟨k1, k2⟩

theorem beginIfReady_sound (p : Port) (l : p.LineSound) : p.beginIfReady.LineSound := by
  unfold Port.beginIfReady; split
  · rename_i h; exact beginNext_sound p h l
  · exact l

theorem beginIfReady_fits (p : Port) (k : p.Fits) : p.beginIfReady.Fits := by
  unfold Port.beginIfReady; split
  · exact beginNext_fits p k
  · exact k

theorem heard (d : Device) (st : Station) : d.Steady (d.heard st) :=
  modPort d st _ (fun l => ⟨fun e => by simp [Port.endReception] at e, l.silent⟩) (fun _ k => ⟨k.own, k.text⟩)

theorem transmit (d : Device) (st : Station) : d.Steady (d.transmit st) :=
  modPort d st _ (fun l => beginIfReady_sound _ l) (fun _ k => beginIfReady_fits _ k)

/-! ### Path lists -/

/-- A path list replaced by one that is no longer, or within the size of a path list. -/
theorem setPath (d : Device) (st : Station) (p : List PathEntry)
    (h : p.length ≤ (d.path st).length ∨ p.length ≤ Config.pathCapacity) : d.Steady (d.setPath st p) := by
  refine ⟨rfl, rfl, rfl, rfl, rfl, rfl, rfl, rfl, rfl, rfl, rfl, fun s => ⟨s.lines, ⟨s.capacity.ports, ?_,
    s.capacity.serviceUp, s.capacity.reports, s.capacity.reportsOf, s.capacity.staleVoids, s.capacity.input,
    s.capacity.replies, s.capacity.accounts⟩, s.notices⟩⟩
  intro x
  by_cases e : x = st
  · subst e; rw [path_setPath]
    rcases h with h | h
    · exact h.trans (s.capacity.paths x)
    · exact h
  · rw [path_setPath_ne d st x p e]; exact s.capacity.paths x

/-! ### The tariff unit -/

theorem bindBank (d : Device) : d.Steady d.bindBank.1 := quiet rfl rfl rfl rfl rfl rfl rfl rfl rfl rfl rfl rfl rfl rfl rfl

theorem releaseBank (d : Device) (b : BankName) : d.Steady (d.releaseBank b) :=
  quiet rfl rfl rfl rfl rfl rfl rfl rfl rfl rfl rfl rfl rfl rfl rfl

/-! ### The account table -/

theorem mail (d : Device) (st : Station) (m : AccountMail) : d.Steady (d.mail st m) := modCtx _ _ _

theorem mailGrants (number : Nat) (grants : List (Station × Nat)) (d : Device) : d.Steady (d.mailGrants number grants) := by
  unfold Device.mailGrants
  induction grants generalizing d with
  | nil => exact refl d
  | cons g rest ih => exact (mail d _ _).trans (ih _)

theorem serve (d : Device) (number : Nat) : d.Steady (d.serve number) := by
  unfold Device.serve; split
  · exact refl d
  · split
    · exact (modAccount _ _ _).trans (mailGrants _ _ _)
    · exact refl d

theorem serveIf (d : Device) (due : Bool) (number : Nat) : d.Steady (d.serveIf due number) := by
  unfold Device.serveIf; split
  · exact serve d number
  · exact refl d

theorem takeRefill (d : Device) (st : Station) : d.Steady (d.takeRefill st) := by
  unfold Device.takeRefill; split
  · exact refl d
  · simp only; split
    · exact (modCtx _ _ _).trans (mail _ _ _)
    · split
      · exact (modCtx _ _ _).trans (mail _ _ _)
      · split
        · exact ((modCtx _ _ _).trans (modAccount _ _ _)).trans (mail _ _ _)
        · exact ((modCtx _ _ _).trans (modAccount _ _ _)).trans (mail _ _ _)

theorem admissionDraw (d : Device) (st : Station) (number price : Nat) : d.Steady (d.admissionDraw st number price).1 := by
  unfold Device.admissionDraw
  have h := takeRefill d st
  simp only
  split
  · exact h
  · split
    · exact h
    · exact h
    · split
      · exact h
      · exact h.trans (modAccount _ _ _)

theorem commitAccount (d : Device) (st : Station) (number price sides : Nat) (cls : PriceClass) :
    d.Steady (d.commitAccount st number price sides cls) := (takeRefill _ _).trans (modAccount _ _ _)

theorem leaveWaiting (d : Device) (st : Station) (number : Nat) : d.Steady (d.leaveWaiting st number) :=
  (takeRefill _ _).trans (modAccount _ _ _)

theorem jobEndRelease (d : Device) (st : Station) (number draw : Nat) : d.Steady (d.jobEndRelease st number draw) :=
  ((leaveWaiting _ _ _).trans (modAccount _ _ _)).trans (serveIf _ _ _)

theorem handBack (d : Device) (st : Station) (number draw : Nat) : d.Steady (d.handBack st number draw) :=
  ((takeRefill _ _).trans (modAccount _ _ _)).trans (serveIf _ _ _)

theorem sessionRelease (d : Device) (st : Station) (number draw : Nat) : d.Steady (d.sessionRelease st number draw) :=
  ((takeRefill _ _).trans (modAccount _ _ _)).trans (serveIf _ _ _)

theorem credentialCheck (d : Device) (st : Station) (number : Nat) (pin : Half) :
    d.Steady (d.credentialCheck st number pin).1 := by
  unfold Device.credentialCheck; split
  · exact refl d
  · split
    · exact refl d
    · split
      · exact refl d
      · exact refl d
      · split
        · simp only; split
          · exact (modAccount _ _ _).trans (notice _ _ _)
          · exact modAccount _ _ _
        · exact modAccount _ _ _

theorem mailClosed (d : Device) (number : Nat) : d.Steady (d.mailClosed number) := by
  unfold Device.mailClosed
  generalize allStations = l
  induction l generalizing d with
  | nil => exact refl d
  | cons x rest ih =>
    simp only [List.foldl_cons]
    split
    · exact (mail _ _ _).trans (ih _)
    · exact ih _

/-! ### The payment unit -/

theorem freeSlot (d : Device) (i : SlotNo) : d.Steady (d.freeSlot i) := modSlot _ _ _

theorem queueRequest (d : Device) (i : SlotNo) (kind : RequestKind) (funds : Bool) (amount : Nat) :
    d.Steady (d.queueRequest i kind funds amount) := quiet rfl rfl rfl rfl rfl rfl rfl rfl rfl rfl rfl rfl rfl rfl rfl

theorem withdrawQueued (d : Device) (i : SlotNo) : d.Steady (d.withdrawQueued i) :=
  quiet rfl rfl rfl rfl rfl rfl rfl rfl rfl rfl rfl rfl rfl rfl rfl

theorem endOutstanding (d : Device) (i : SlotNo) : d.Steady (d.endOutstanding i) :=
  quiet rfl rfl rfl rfl rfl rfl rfl rfl rfl rfl rfl rfl rfl rfl rfl

theorem payReport (d : Device) (i : SlotNo) (kind : ReportKind) : d.Steady (d.payReport i kind) := by
  unfold Device.payReport; split
  · exact quiet rfl rfl rfl rfl rfl rfl rfl rfl rfl rfl rfl rfl rfl rfl rfl
  · exact refl d

theorem ownerNotice (d : Device) (i : SlotNo) (c : NoticeClass) : d.Steady (d.ownerNotice i c) := notice _ _ _

theorem takeSlot (d : Device) (i : SlotNo) (st : Station) (token : List Byte) : d.Steady (d.takeSlot i st token) :=
  (modSlot _ _ _).trans (queueRequest _ _ _ _ _)

theorem lifetimeTest (d : Device) (i : SlotNo) : d.Steady (d.lifetimeTest i) := by
  unfold Device.lifetimeTest; split
  · exact (queueRequest _ _ _ _ _).trans (modSlot _ _ _)
  · exact refl d

theorem fundsRenewal (d : Device) (i : SlotNo) : d.Steady (d.fundsRenewal i).1 := by
  unfold Device.fundsRenewal; split
  · split
    · exact refl d
    · split
      · exact modSlot _ _ _
      · exact (queueRequest _ _ _ _ _).trans (modSlot _ _ _)
  · exact modSlot _ _ _
  · exact refl d

theorem reserveCard (d : Device) (i : SlotNo) (price : Nat) : d.Steady (d.reserveCard i price) := modSlot _ _ _

theorem commitCard (d : Device) (i : SlotNo) (price : Nat) : d.Steady (d.commitCard i price) := modSlot _ _ _

theorem returnCard (d : Device) (i : SlotNo) (price : Nat) : d.Steady (d.returnCard i price) := modSlot _ _ _

theorem queueFinal (d : Device) (i : SlotNo) (f : FinalRequest) : d.Steady (d.queueFinal i f) :=
  (queueRequest _ _ _ _ _).trans (modSlot _ _ _)

theorem finalizeSlot (d : Device) (i : SlotNo) (consumed : Nat) : d.Steady (d.finalizeSlot i consumed) := by
  unfold Device.finalizeSlot; simp only; split
  · exact queueFinal _ _ _
  · exact queueFinal _ _ _
  · split
    · exact modSlot _ _ _
    · exact (withdrawQueued _ _).trans (queueFinal _ _ _)
  · exact refl d

theorem lapse (d : Device) (i : SlotNo) : d.Steady (d.lapse i) := modSlot _ _ _

theorem abandonSlot (d : Device) (ref : SlotRef) : d.Steady (d.abandonSlot ref) := by
  unfold Device.abandonSlot; simp only; split
  · exact refl d
  · split
    · split
      · exact (endOutstanding _ _).trans (lapse _ _)
      · exact (withdrawQueued _ _).trans (lapse _ _)
    · exact finalizeSlot _ _ _
    · exact finalizeSlot _ _ _
    · exact finalizeSlot _ _ _
    · exact refl d

theorem approveAuth (d : Device) (i : SlotNo) (ref : Reference) (approved : Nat) (lifetime : Byte) :
    d.Steady (d.approveAuth i ref approved lifetime) :=
  (((endOutstanding _ _).trans (modSlot _ _ _)).trans (payReport _ _ _)).trans (lifetimeTest _ _)

theorem declineAuth (d : Device) (i : SlotNo) : d.Steady (d.declineAuth i) :=
  ((endOutstanding _ _).trans (payReport _ _ _)).trans (freeSlot _ _)

theorem voidLate (d : Device) (i : SlotNo) (ref : Reference) : d.Steady (d.voidLate i ref) :=
  (modSlot _ _ _).trans (queueFinal _ _ _)

theorem refuseRenewal (d : Device) (i : SlotNo) : d.Steady (d.refuseRenewal i) := by
  unfold Device.refuseRenewal; simp only; split
  · exact ((endOutstanding _ _).trans (modSlot _ _ _)).trans (payReport _ _ _)
  · exact (endOutstanding _ _).trans (modSlot _ _ _)

theorem approveRenewal (d : Device) (i : SlotNo) (approved : Nat) (lifetime : Byte) :
    d.Steady (d.approveRenewal i approved lifetime) := by
  unfold Device.approveRenewal; simp only; split
  · exact (((endOutstanding _ _).trans (modSlot _ _ _)).trans (lifetimeTest _ _)).trans (payReport _ _ _)
  · exact ((endOutstanding _ _).trans (modSlot _ _ _)).trans (lifetimeTest _ _)

theorem releaseFinal (d : Device) (i : SlotNo) : d.Steady (d.releaseFinal i) := by
  unfold Device.releaseFinal; split
  · exact ((endOutstanding _ _).trans (modSlot _ _ _)).trans (queueFinal _ _ _)
  · exact refl d

theorem endFinal (d : Device) (i : SlotNo) (unconfirmed : Bool) : d.Steady (d.endFinal i unconfirmed) := by
  unfold Device.endFinal; simp only; split
  · exact ((endOutstanding _ _).trans (ownerNotice _ _ _)).trans (freeSlot _ _)
  · exact (endOutstanding _ _).trans (freeSlot _ _)

theorem expireSlot (d : Device) (i : SlotNo) : d.Steady (d.expireSlot i) := by
  unfold Device.expireSlot; simp only; split
  · exact (((withdrawQueued _ _).trans (modSlot _ _ _)).trans (ownerNotice _ _ _)).trans (payReport _ _ _)
  · exact (((endOutstanding _ _).trans (modSlot _ _ _)).trans (ownerNotice _ _ _)).trans (payReport _ _ _)
  · exact ((modSlot _ _ _).trans (ownerNotice _ _ _)).trans (payReport _ _ _)

/-! ### The session engine -/

theorem sendGo (d : Device) (st : Station) : d.Steady (d.sendGo st) := by
  unfold Device.sendGo; split
  · split
    · exact refl d
    · exact (modJob _ _ _).trans (send _ _ _)
  · exact refl d

theorem sendPause (d : Device) (st : Station) (r : PauseReason) : d.Steady (d.sendPause st r) :=
  (modJob _ _ _).trans (send _ _ _)

theorem enterIdle (d : Device) (st : Station) : d.Steady (d.enterIdle st) := (enter _ _ _).trans (modCtx _ _ _)

theorem enterOpen (d : Device) (st : Station) : d.Steady (d.enterOpen st) :=
  ((enter _ _ _).trans (modCtx _ _ _)).trans (send _ _ _)

theorem enterHeld (d : Device) (st : Station) : d.Steady (d.enterHeld st) := by
  unfold Device.enterHeld; simp only; split
  · exact ((enter _ _ _).trans (sendPause _ _ _)).trans (modCtx _ _ _)
  · exact (enter _ _ _).trans (sendPause _ _ _)

theorem announceRunning (d : Device) (st : Station) : d.Steady (d.announceRunning st) := by
  unfold Device.announceRunning; split
  · split
    · exact refl d
    · split
      · exact sendPause _ _ _
      · exact sendGo _ _
  · exact refl d

theorem enterRunning (d : Device) (st : Station) : d.Steady (d.enterRunning st) := (enter _ _ _).trans (announceRunning _ _)

theorem commitEntry (d : Device) (st : Station) (e : PathEntry) : d.Steady (d.commitEntry st e) := by
  unfold Device.commitEntry; split
  · exact (modJob _ _ _).trans (commitAccount _ _ _ _ _ _)
  · exact commitCard _ _ _
  · exact refl d

theorem chargeEntry (d : Device) (st : Station) (e : PathEntry) : d.Steady (d.chargeEntry st e) := by
  unfold Device.chargeEntry; split
  · exact (commitEntry _ _ _).trans (modSession _ _ _)
  · exact (modSession _ _ _).trans (shortfallFault _ _)

theorem deliver (d : Device) (st : Station) (e : PathEntry) : d.Steady (d.deliver st e) :=
  ((chargeEntry _ _ _).trans (modJob _ _ _)).trans (modMeters _ _ _)

theorem dropEntry (d : Device) (st : Station) (o : Half) : d.Steady (d.dropEntry st o) :=
  setPath _ _ _ (.inl (List.length_eraseP_le))

theorem returnCharge (d : Device) (st : Station) (e : PathEntry) : d.Steady (d.returnCharge st e) := by
  unfold Device.returnCharge; split
  · exact returnCard _ _ _
  · exact refl d

theorem outcomeDelivered (d : Device) (st : Station) (e : PathEntry) : d.Steady (d.outcomeDelivered st e) :=
  (dropEntry _ _ _).trans (deliver _ _ _)

theorem outcomeSpoiled (d : Device) (st : Station) (e : PathEntry) : d.Steady (d.outcomeSpoiled st e) :=
  ((((dropEntry _ _ _).trans (returnCharge _ _ _)).trans (modJob _ _ _)).trans (modSession _ _ _)).trans (modMeters _ _ _)

theorem outcomeForgiven (d : Device) (st : Station) (e : PathEntry) : d.Steady (d.outcomeForgiven st e) :=
  (((dropEntry _ _ _).trans (returnCharge _ _ _)).trans (modJob _ _ _)).trans (modSession _ _ _)

theorem resolveEntry (d : Device) (st : Station) (p : JamPolicy) (e : PathEntry) : d.Steady (d.resolveEntry st p e) := by
  cases p
  · exact outcomeDelivered _ _ _
  · exact outcomeForgiven _ _ _

theorem clearEntry (d : Device) (st : Station) (stand : List (Half × Outcome3)) (e : PathEntry) :
    d.Steady (d.clearEntry st stand e) := by
  unfold Device.clearEntry; split
  · exact outcomeDelivered _ _ _
  · exact outcomeSpoiled _ _ _
  · exact refl d
  · exact resolveEntry _ _ _ _

/-- A run of steady operations over a list is steady. -/
theorem foldl {α : Type} (f : Device → α → Device) (h : ∀ (d : Device) (x : α), d.Steady (f d x)) (l : List α) (d : Device) :
    d.Steady (l.foldl f d) := by
  induction l generalizing d with
  | nil => exact refl d
  | cons x rest ih => exact (h d x).trans (ih _)

theorem resolveAll (d : Device) (st : Station) : d.Steady (d.resolveAll st) :=
  foldl _ (fun _ _ => resolveEntry _ _ _ _) _ _

theorem unmark (d : Device) (st : Station) : d.Steady (d.unmark st) := setPath _ _ _ (.inl (by simp))

theorem releaseDraw (d : Device) (st : Station) (draw : Nat) : d.Steady (d.releaseDraw st draw) := by
  unfold Device.releaseDraw; split
  · exact jobEndRelease _ _ _ _
  · exact refl d

theorem endJob (d : Device) (st : Station) (reason : JobEndReason) (tell : Bool) : d.Steady (d.endJob st reason tell) := by
  unfold Device.endJob; split
  · exact refl d
  · simp only
    refine trans ?_ (modCtx _ _ _)
    refine trans ?_ (releaseDraw _ _ _)
    refine trans ?_ (modCtx _ _ _)
    have h1 : d.Steady (if tell = true then (d.modJob st fun j => { j with endReason := some reason }).send st (.jobEnd reason)
        else d.modJob st fun j => { j with endReason := some reason }) := by
      split
      · exact (modJob _ _ _).trans (send _ _ _)
      · exact modJob _ _ _
    refine h1.trans ?_
    generalize (if tell = true then (d.modJob st fun j => { j with endReason := some reason }).send st (.jobEnd reason)
        else d.modJob st fun j => { j with endReason := some reason }) = x
    split
    · exact modMeters _ _ _
    · exact refl _

theorem reportsOf_append (x : Station) (q : List Report) (r : Report) :
    reportsOf x (q ++ [r]) = reportsOf x q + if r.station == x then 1 else 0 := by
  simp only [reportsOf, List.countP_append, List.countP_cons, List.countP_nil, Nat.zero_add]

theorem placeReport (d : Device) (st : Station) (reason : EndReason) (h : d.reportRoom st = true) :
    d.Steady (d.placeReport st reason) := by
  unfold Device.placeReport; split
  · simp only [Device.reportRoom, Bool.and_eq_true, decide_eq_true_eq] at h
    refine ⟨rfl, rfl, rfl, rfl, rfl, rfl, rfl, rfl, rfl, rfl, rfl, fun s => ⟨s.lines, ⟨s.capacity.ports,
      s.capacity.paths, s.capacity.serviceUp, ?_, ?_, s.capacity.staleVoids, s.capacity.input, s.capacity.replies,
      s.capacity.accounts⟩, s.notices⟩⟩
    · simp only [List.length_append, List.length_singleton]; omega
    · intro x
      simp only [reportsOf_append]
      have hx := s.capacity.reportsOf x
      split
      · rename_i e
        have e : st = x := by simpa [Device.buildReport] using e
        subst e; omega
      · exact hx
  · exact refl d

theorem releaseSession (d : Device) (st : Station) : d.Steady (d.releaseSession st) := by
  unfold Device.releaseSession; split
  · exact refl d
  · simp only
    refine trans ?_ (releaseBank _ _)
    split
    · exact sessionRelease _ _ _ _
    · exact finalizeSlot _ _ _

theorem closeSession (d : Device) (st : Station) (reason : EndReason) : d.Steady (d.closeSession st reason) := by
  unfold Device.closeSession; simp only
  refine trans ?_ (modCtx _ _ _)
  split
  · exact releaseSession _ _
  · exact (releaseSession _ _).trans (send _ _ _)

theorem endSession (d : Device) (st : Station) (reason : EndReason) : d.Steady (d.endSession st reason) := by
  unfold Device.endSession; split
  · rename_i h
    exact ((placeReport _ _ _ h).trans (closeSession _ _ _)).trans (enterIdle _ _)
  · exact (enter _ _ _).trans (modCtx _ _ _)

theorem afterJob (d : Device) (st : Station) (reason : JobEndReason) (last : Bool) : d.Steady (d.afterJob st reason last) := by
  unfold Device.afterJob; split
  · exact endSession _ _ _
  · split
    · exact endSession _ _ _
    · split
      · exact endSession _ _ _
      · exact enterOpen _ _

theorem finishJob (d : Device) (st : Station) (reason : JobEndReason) : d.Steady (d.finishJob st reason) := by
  unfold Device.finishJob; split
  · exact (endJob _ _ _ _).trans (afterJob _ _ _ _)
  · exact refl d

theorem drain (d : Device) (st : Station) : d.Steady (d.drain st) := finishJob _ _ _

theorem finalizeTorn (d : Device) (st : Station) (reason : EndReason) : d.Steady (d.finalizeTorn st reason) := by
  unfold Device.finalizeTorn; simp only
  refine trans (resolveAll d st) ?_
  generalize d.resolveAll st = x
  refine trans ?_ (closeSession _ _ _)
  split
  · rename_i h; exact placeReport _ _ _ h
  · exact uplinkDropFault _ _

theorem teardown (d : Device) (st : Station) (reason : EndReason) : d.Steady (d.teardown st reason) := by
  unfold Device.teardown; split
  · exact refl d
  · exact refl d
  · exact refl d
  · simp only; split
    · exact abandonSlot _ _
    · exact (abandonSlot _ _).trans (send _ _ _)
  · exact finalizeTorn _ _ _
  all_goals exact ((resolveAll _ _).trans (endJob _ _ _ _)).trans (finalizeTorn _ _ _)

theorem askRenewal (d : Device) (st : Station) (i : SlotNo) : d.Steady (d.askRenewal st i) := by
  unfold Device.askRenewal; simp only; split
  · exact (fundsRenewal _ _).trans (modJob _ _ _)
  · exact (fundsRenewal _ _).trans (modJob _ _ _)

theorem fundsTrigger (d : Device) (st : Station) : d.Steady (d.fundsTrigger st) := by
  unfold Device.fundsTrigger; split
  · split
    · exact refl d
    · split
      · exact (modJob _ _ _).trans (modCtx _ _ _)
      · exact (askRenewal _ _ _).trans (enterHeld _ _)
  · exact refl d

theorem askAgain (d : Device) (st : Station) : d.Steady (d.askAgain st) := by
  unfold Device.askAgain; split
  · exact askRenewal _ _ _
  · exact refl d

theorem fundsArrived (d : Device) (st : Station) : d.Steady (d.fundsArrived st) := by
  unfold Device.fundsArrived; simp only
  refine trans (modJob d st fun j => { j with fundsRequest := .none }) ?_
  generalize (d.modJob st fun j => { j with fundsRequest := .none }) = x
  split
  · split
    · exact enterRunning _ _
    · split
      · exact refl _
      · exact askAgain _ _
  · split
    · exact modCtx _ _ _
    · exact askAgain _ _
  · exact refl _

theorem addDraw (d : Device) (st : Station) (draw : Nat) : d.Steady (d.addDraw st draw) := modJob _ _ _

theorem setEndPending (d : Device) (st : Station) (r : EndReason) : d.Steady (d.setEndPending st r) := modCtx _ _ _

theorem loseFunding (d : Device) (st : Station) (r : EndReason) : d.Steady (d.loseFunding st r) := by
  unfold Device.loseFunding; split
  · exact endSession _ _ _
  · simp only; split
    · exact ((((setEndPending _ _ _).trans (sendPause _ _ _)).trans (enter _ _ _)).trans (modJob _ _ _)).trans (drain _ _)
    · exact (((setEndPending _ _ _).trans (sendPause _ _ _)).trans (enter _ _ _)).trans (modJob _ _ _)
  · simp only; split
    · exact ((((setEndPending _ _ _).trans (sendPause _ _ _)).trans (enter _ _ _)).trans (modJob _ _ _)).trans (drain _ _)
    · exact (((setEndPending _ _ _).trans (sendPause _ _ _)).trans (enter _ _ _)).trans (modJob _ _ _)
  · exact ((setEndPending _ _ _).trans (modCtx _ _ _)).trans (modJob _ _ _)
  · exact refl d

theorem createJob (d : Device) (st : Station) (j : Job) : d.Steady (d.createJob st j) := modCtx _ _ _

theorem admitAccount (d : Device) (st : Station) (s : Session) (n : Nat) (o : JobOrder) :
    d.Steady (d.admitAccount st s n o).1 := by
  unfold Device.admitAccount; split
  · exact refl d
  · split
    · simp only; split
      · exact ((admissionDraw _ _ _ _).trans (createJob _ _ _)).trans (enterRunning _ _)
      · exact admissionDraw _ _ _ _
    · exact refl d

theorem admitCard (d : Device) (st : Station) (s : Session) (i : SlotNo) (o : JobOrder) :
    d.Steady (d.admitCard st s i o).1 := by
  unfold Device.admitCard; simp only; split
  · exact (createJob _ _ _).trans (enterRunning _ _)
  · split
    · split
      · exact ((fundsRenewal _ _).trans (createJob _ _ _)).trans (enterHeld _ _)
      · exact fundsRenewal _ _
    · exact refl d

theorem admission (d : Device) (st : Station) (o : Option JobOrder) : d.Steady (d.admission st o).1 := by
  unfold Device.admission; split
  · exact refl d
  · exact refl d
  · split
    · exact admitAccount _ _ _ _ _
    · exact admitCard _ _ _ _ _

/-! ### Station frames -/

theorem replaceJob (d : Device) (st : Station) (o : Option JobOrder) : d.Steady (d.replaceJob st o) := by
  unfold Device.replaceJob; simp only; split
  · exact (endJob _ _ _ _).trans (admission _ _ _)
  · exact (((endJob _ _ _ _).trans (admission _ _ _)).trans (send _ _ _)).trans (enterOpen _ _)

theorem takeStart (d : Device) (st : Station) (o : Option JobOrder) : d.Steady (d.takeStart st o) := by
  unfold Device.takeStart; split
  · exact send _ _ _
  · exact refl d
  · exact send _ _ _
  · exact send _ _ _
  · simp only; split
    · exact admission _ _ _
    · exact (admission _ _ _).trans (send _ _ _)
  · split
    · exact replaceJob _ _ _
    · exact send _ _ _
  all_goals exact send _ _ _

theorem untrackedSheet (d : Device) (st : Station) : d.Steady (d.untrackedSheet st) :=
  ((modJob _ _ _).trans (modSession _ _ _)).trans (protocolFault _ _)

theorem joinEntry (d : Device) (st : Station) (s : Session) (e : PathEntry) (h : (d.path st).length < Config.pathCapacity) :
    d.Steady (d.joinEntry st s e) := by
  have k : d.Steady (d.setPath st (d.path st ++ [e])) := setPath _ _ _ (.inr (by simp; omega))
  unfold Device.joinEntry; simp only; split
  · exact k.trans (reserveCard _ _ _)
  · exact k

theorem pathFilled (d : Device) (st : Station) : d.Steady (d.pathFilled st) := by
  unfold Device.pathFilled; split
  · simp only; split
    · exact (pathFullFault _ _).trans (sendPause _ _ _)
    · exact pathFullFault _ _
  · exact refl d

theorem feedSheet (d : Device) (st : Station) (s : Session) (j : Job) (o : Half) (z c : Byte) :
    d.Steady (d.feedSheet st s j o z c) := by
  unfold Device.feedSheet; split
  · exact protocolFault _ _
  · simp only; split
    · exact (protocolFaultIf _ _ _).trans (untrackedSheet _ _)
    · rename_i h
      exact (((((protocolFaultIf _ _ _).trans (joinEntry _ _ _ _ (by omega))).trans (modJob _ _ _)).trans
        (pathFilled _ _)).trans (modCtx _ _ _)).trans (fundsTrigger _ _)

theorem takeFeed (d : Device) (st : Station) (o : Half) (z c : Byte) : d.Steady (d.takeFeed st o z c) := by
  unfold Device.takeFeed; split
  · exact feedSheet _ _ _ _ _ _ _
  · exact feedSheet _ _ _ _ _ _ _
  · exact feedSheet _ _ _ _ _ _ _
  · exact protocolFault _ _

theorem afterExit (d : Device) (st : Station) (before : Nat) : d.Steady (d.afterExit st before) := by
  unfold Device.afterExit; split
  · exact refl d
  · split
    · exact finishJob _ _ _
    · split
      · exact finishJob _ _ _
      · split
        · split
          · exact drain _ _
          · exact refl d
        · split
          · split
            · exact finishJob _ _ _
            · exact modCtx _ _ _
          · exact refl d
        · split
          · exact sendGo _ _
          · exact refl d
        · exact refl d

theorem takeExit (d : Device) (st : Station) (o : Half) : d.Steady (d.takeExit st o) := by
  unfold Device.takeExit; split
  · exact (outcomeDelivered _ _ _).trans (afterExit _ _ _)
  · exact (outcomeDelivered _ _ _).trans (afterExit _ _ _)
  · exact (outcomeDelivered _ _ _).trans (afterExit _ _ _)
  · exact outcomeDelivered _ _ _
  · exact protocolFault _ _

theorem markPath (d : Device) (st : Station) (l : List Half) : d.Steady (d.markPath st l) := by
  refine (protocolFaultIf _ _ _).trans (setPath _ _ _ (.inl ?_))
  simp only [markEntries, List.length_map]
  unfold Device.protocolFaultIf; split <;> exact le_refl _

theorem enterJammed (d : Device) (st : Station) (r : Resume) (l : List Half) : d.Steady (d.enterJammed st r l) :=
  ((((enter _ _ _).trans (modCtx _ _ _)).trans (modMeters _ _ _)).trans (notice _ _ _)).trans (markPath _ _ _)

theorem takeJam (d : Device) (st : Station) (l : List Half) : d.Steady (d.takeJam st l) := by
  unfold Device.takeJam; split
  · exact enterJammed _ _ _ _
  · exact enterJammed _ _ _ _
  · exact enterJammed _ _ _ _
  · exact markPath _ _ _
  · exact protocolFault _ _

theorem leaveJam (d : Device) (st : Station) (r : Resume) : d.Steady (d.leaveJam st r) := by
  unfold Device.leaveJam; split
  · exact refl d
  · split
    · exact finishJob _ _ _
    · split
      · exact finishJob _ _ _
      · split
        · simp only; split
          · exact (enter _ _ _).trans (drain _ _)
          · exact (enter _ _ _).trans (sendPause _ _ _)
        · split
          · exact finishJob _ _ _
          · exact enterHeld _ _
        · split
          · exact finishJob _ _ _
          · simp only; split
            · exact (enter _ _ _).trans (fundsTrigger _ _)
            · exact (enter _ _ _).trans (announceRunning _ _)

theorem takeClear (d : Device) (st : Station) (l : List (Half × Byte)) : d.Steady (d.takeClear st l) := by
  unfold Device.takeClear; split
  · exact ((((protocolFaultIf _ _ _).trans (foldl _ (fun _ _ => clearEntry _ _ _ _) _ _)).trans (unmark _ _)).trans
      (leaveJam _ _ _))
  · exact protocolFault _ _

theorem setStop (d : Device) (st : Station) : d.Steady (d.setStop st) := by
  unfold Device.setStop; split
  · exact (modJob _ _ _).trans (leaveWaiting _ _ _)
  · exact modJob _ _ _

theorem takeStop (d : Device) (st : Station) : d.Steady (d.takeStop st) := by
  unfold Device.takeStop; split
  · exact refl d
  · split
    · exact refl d
    · split
      · simp only; split
        · exact (setStop _ _).trans (finishJob _ _ _)
        · exact setStop _ _
      · simp only; split
        · exact (setStop _ _).trans (finishJob _ _ _)
        · exact setStop _ _
      · exact setStop _ _
      · exact modJob _ _ _
      · exact refl d

theorem openSession (d : Device) (st : Station) (f : Funding) : d.Steady (d.openSession st f) :=
  ((bindBank _).trans (modCtx _ _ _)).trans (enterOpen _ _)

theorem takeKeyin (d : Device) (st : Station) (n : Nat) (pin : Half) : d.Steady (d.takeKeyin st n pin) := by
  unfold Device.takeKeyin; split
  · exact send _ _ _
  · exact refl d
  · unfold Device.checkKeyin; split
    · simp only; split
      · exact (credentialCheck _ _ _ _).trans (send _ _ _)
      · exact (credentialCheck _ _ _ _).trans (openSession _ _ _)
    · exact send _ _ _
  all_goals exact send _ _ _

theorem takeLogout (d : Device) (st : Station) : d.Steady (d.takeLogout st) := by
  unfold Device.takeLogout; split
  · exact endSession _ _ _
  · exact setEndPending _ _ _
  · exact setEndPending _ _ _
  · exact setEndPending _ _ _
  all_goals exact refl d

theorem takeCard (d : Device) (st : Station) (token : List Byte) : d.Steady (d.takeCard st token) := by
  unfold Device.takeCard; split
  · exact send _ _ _
  · exact refl d
  · unfold Device.checkCard; split
    · split
      · exact send _ _ _
      · split
        · exact (takeSlot _ _ _ _).trans (enter _ _ _)
        · exact send _ _ _
    · exact send _ _ _
  all_goals exact send _ _ _

theorem takeCardOut (d : Device) (st : Station) : d.Steady (d.takeCardOut st) := by
  unfold Device.takeCardOut; split
  · exact (abandonSlot _ _).trans (enterIdle _ _)
  · split
    · exact endSession _ _ _
    · exact refl d
  · split
    · exact setEndPending _ _ _
    · exact refl d
  · split
    · exact setEndPending _ _ _
    · exact refl d
  · split
    · exact setEndPending _ _ _
    · exact refl d
  all_goals exact refl d

theorem present (d : Device) (st : Station) (w : Option WakeClass) (f : Device → Device) (h : ∀ d : Device, d.Steady (f d)) :
    d.Steady (d.present st w f) := by
  unfold Device.present; split
  · exact (modCtx _ _ _).trans (h _)
  · exact (modCtx _ _ _).trans (h _)
  · split
    · exact protocolFault _ _
    · split
      · exact ((send _ _ _).trans (enterIdle _ _)).trans (h _)
      · exact notice _ _ _
  · exact h _

theorem running (d : Device) (f : Device → Device) (h : ∀ d : Device, d.Steady (f d)) : d.Steady (d.running f) := by
  unfold Device.running; split
  · exact refl d
  · exact h d

theorem receiveStation (d : Device) (st : Station) (f : Device → Device) (h : ∀ d : Device, d.Steady (f d)) :
    d.Steady (d.receiveStation st f) := by
  refine running _ _ fun d => ?_
  split
  · exact ((heard d st).trans (h _)).trans (transmit _ _)
  · exact refl d

theorem stationFrame (d : Device) (st : Station) (w : Option WakeClass) (f : Device → Device) (h : ∀ d : Device, d.Steady (f d)) :
    d.Steady (d.stationFrame st w f) := receiveStation _ _ _ fun _ => present _ _ _ _ h

theorem badStationFrame (d : Device) (st : Station) : d.Steady (d.badStationFrame st) :=
  receiveStation _ _ _ fun _ => linkFault _ _

/-! ### The ends of timers -/

theorem takeDozeExpiry (d : Device) (st : Station) : d.Steady (d.takeDozeExpiry st) := by
  unfold Device.takeDozeExpiry; split
  · exact (send _ _ _).trans (enter _ _ _)
  · exact refl d

theorem takeIdleExpiry (d : Device) (st : Station) : d.Steady (d.takeIdleExpiry st) := by
  unfold Device.takeIdleExpiry; split
  · exact endSession _ _ _
  · exact refl d

theorem takeWaitExpiry (d : Device) (st : Station) : d.Steady (d.takeWaitExpiry st) := by
  unfold Device.takeWaitExpiry; split
  · exact finishJob _ _ _
  · exact refl d

theorem abandonJob (d : Device) (st : Station) : d.Steady (d.abandonJob st) := by
  unfold Device.abandonJob; split
  · exact refl d
  · exact (((resolveAll _ _).trans (endJob _ _ _ _)).trans (notice _ _ _)).trans (afterJob _ _ _ _)

theorem takeJamExpiry (d : Device) (st : Station) : d.Steady (d.takeJamExpiry st) := by
  unfold Device.takeJamExpiry; split
  · exact abandonJob _ _
  · exact refl d

theorem takeAuthTimeout (d : Device) (i : SlotNo) : d.Steady (d.takeAuthTimeout i) := by
  unfold Device.takeAuthTimeout; split
  · exact ((endOutstanding _ _).trans (lapse _ _)).trans (payReport _ _ _)
  · exact refl d

theorem takeRenewTimeout (d : Device) (i : SlotNo) : d.Steady (d.takeRenewTimeout i) := by
  unfold Device.takeRenewTimeout; split
  · split
    · exact refuseRenewal _ _
    · exact releaseFinal _ _
    · exact releaseFinal _ _
    · exact refl d
  · exact refl d

theorem takeFinalTimeout (d : Device) (i : SlotNo) : d.Steady (d.takeFinalTimeout i) := by
  unfold Device.takeFinalTimeout; split
  · exact endFinal _ _ _
  · exact refl d

theorem takeLapseExpiry (d : Device) (i : SlotNo) : d.Steady (d.takeLapseExpiry i) := by
  unfold Device.takeLapseExpiry; split
  · exact freeSlot _ _
  · exact refl d

theorem takeHoldExpiry (d : Device) (i : SlotNo) : d.Steady (d.takeHoldExpiry i) := by
  unfold Device.takeHoldExpiry; split
  · exact expireSlot _ _
  · exact refl d

theorem takeEnd (d : Device) (e : Expiry) : d.Steady (d.takeEnd e) := by
  cases e
  · exact takeDozeExpiry _ _
  · exact takeIdleExpiry _ _
  · exact takeWaitExpiry _ _
  · exact takeJamExpiry _ _
  · exact takeAuthTimeout _ _
  · exact takeRenewTimeout _ _
  · exact takeFinalTimeout _ _
  · exact takeLapseExpiry _ _
  · exact takeHoldExpiry _ _

theorem takeOverdue (d : Device) : d.Steady d.takeOverdue := foldl _ takeEnd _ _

end Device.Steady

end Sys2Proof.Machine
end

