-- ==== Sys2Proof/Tests/Slice0.lean ====
section
/-! SUPPORT. Tests: the checks of well-formedness, the check sequence and the receiver on written-out frames, and for every
statement of Certificates/Slice0/Obligations.lean concrete states that meet its hypotheses, clause by clause, with what the
model answers there. -/

namespace Sys2Proof.Tests
open Sys2Proof.Machine

/-! ### Small states -/

/-- The part after one command. -/
def after (c : Instr) (d : Device) : Device :=
  match exec c ⟨d, []⟩ with
  | .next s => s.toDevice
  | _ => d

/-- The part after reset with every carrier PRESENT. -/
def rest : Device := Device.powerOn (Vector.replicate 16 true) true 0

/-- Station 0 has sent the start delimiter of a frame, and its line is free. -/
def hears (d : Device) : Device := d.modPort 0 fun p => { p with receiver := .receiving, transmitter := .idle }

/-- The same part when the start delimiters of a frame of station 0 and of an uplink frame have been taken. -/
def base : Device := hears { rest with uplink := { rest.uplink with receiver := .receiving } }

/-- The frames toward station 0: the one on the line and those queued. -/
def out (d : Device) : List StationFrame :=
  (match (d.port 0).transmitter with
    | .sending f => [f]
    | .idle => []) ++ (d.port 0).ownQueue

/-- Account 7. -/
def acct : Account :=
  { number := 7, pin := 0x1234, limit := 500, spent := 100, draws := 0, state := .active, pinFailures := 0
    colourPermitted := true, maxSize := 3, openSessions := 0, waiting := [], live := .zero, closedRecord := .zero }

/-- A loaded bank at 10 units a side, and account 7. -/
def shop : Device :=
  { base with
    tariff := { bankA := { prices := Vector.replicate 8 10, loaded := true, refCount := 0 }, bankB := .empty, selector := .bankA }
    accounts := [acct] }

/-- Account 7 replaced. -/
def withAcct (a : Account) (d : Device) : Device := { d with accounts := [a] }

/-- Station 0 in a state. -/
def at0 (s : StationState) (d : Device) : Device := d.modCtx 0 fun c => { c with state := s }

/-- The reference of slot 0's present use. -/
def ref0 : SlotRef := { slot := 0, generation := 5 }

/-- A slot of station 0 with a hold of 1000 units. -/
def hold0 : Slot :=
  { Slot.freed 5 with state := .active, owner := some 0, reference := some 77, approved := 1000, lifetime := 3600 }

/-- Slot 0 replaced. -/
def withSlot (s : Slot) (d : Device) : Device := { d with slots := d.slots.set 0 s }

/-- An order of one set of two sheets. -/
def order : JobOrder := { sheetsPerSet := 2, sets := 1, sides := 1, size := 1, colour := .mono, lastJob := false }

/-- A card session's job. -/
def job0 : Job := order.job none .none

/-- An account session's job with a draw of 200. -/
def drawJob : Job := order.job (some 200) .none

/-- A funded entry of 10 units. -/
def entry (o : Half) : PathEntry :=
  { ordinal := o, sides := 1, size := 1, colour := .mono, price := 10, provisional := 10, funded := true, surplus := false
    mark := none }

/-- Eight entries. -/
def fullPath : List PathEntry := [entry 1, entry 2, entry 3, entry 4, entry 5, entry 6, entry 7, entry 8]

/-- Station 0 with a card session on slot 0. -/
def card (s : StationState) (j : Option Job) (p : List PathEntry) : Device :=
  ((withSlot { hold0 with provisional := sumProvisional p } shop).modCtx 0 fun c =>
    { c with state := s, session := some (newSession (.card ref0) .bankA), job := j, dozeTimer := none }).setPath 0 p

/-- Station 0 with a session of account 7. -/
def keyed (s : StationState) (j : Option Job) (p : List PathEntry) : Device :=
  ((withAcct { acct with openSessions := 1, draws := 200 } shop).modCtx 0 fun c =>
    { c with state := s, session := some (newSession (.account 7) .bankA), job := j, dozeTimer := none }).setPath 0 p

/-- A change of station 0's context. -/
def ctx0 (f : Context → Context) (d : Device) : Device := d.modCtx 0 f

/-- A change of station 0's port. -/
def port0 (f : Port → Port) (d : Device) : Device := d.modPort 0 f

/-- A management request waits at the head of the input queue. -/
def asks (kind : Byte) (params : List Byte) (d : Device) : Device :=
  { d with mgmt := { d.mgmt with input := [{ tag := 9, kind := kind, params := params }] } }

/-- A session report of station 0. -/
def report0 : Report := base.buildReport 0 (newSession (.account 7) .bankA) .logout

/-- Two reports of station 0 stand in the report queue. -/
def noRoom (d : Device) : Device := { d with reports := [report0, report0] }

/-- The status and the data of the last reply. -/
def lastReply (d : Device) : Option (Status × ReplyData) := d.mgmt.replies.getLast?.map fun r => (r.status, r.data)

/-- The bytes of a frame from its covered bytes (R201). -/
def framed (covered : List Byte) : List LineEvent := ((0x7E :: covered) ++ halfBytes (checkSequence covered)).map .byte

/-- A slot in AUTHORIZING. -/
def asking (p : Place) : Slot :=
  { Slot.freed 5 with
    state := .authorizing, owner := some 0, token := some (List.replicate 16 1), asked := some 1000
    request := some { kind := .auth, place := p, funds := false, amount := 0 } }

/-- Station 0 in FUNDING with slot 0 in a state. -/
def funding (s : Slot) : Device := at0 (.funding ref0) (withSlot s shop)

/-- A slot whose request of a kind stands at a place. -/
def with1 (s : SlotState) (k : RequestKind) (p : Place) (funds : Bool) : Slot :=
  { hold0 with state := s, request := some { kind := k, place := p, funds := funds, amount := 25 } }

/-- A report of the payment unit about slot 0 is under way. -/
def told (k : ReportKind) (d : Device) : Device := { d with payReports := [{ kind := k, station := 0, ref := ref0 }] }

/-- A message of the account table is under way to station 0. -/
def mailed (m : AccountMail) (d : Device) : Device := ctx0 (fun c => { c with accountMail := [m] }) d

/-- Whether the bytes of a command's frame come back to it. -/
def comesBack (i : Instr) : Bool :=
  i.wf && match encodeFrame i with
    | some (line, bytes) => line.receiveAll .waiting (bytes.map .byte) == (.waiting, [line.delimiterCommand, i])
    | none => false

/-! ### What the small states are -/

/-- The premises that the witnesses below share: the states named `card` and `keyed` hear the station, hold its session, job and
path, and have room for a report. -/
theorem test_small_states :
    (∀ s ∈ [StationState.opened, .running, .held, .closing, .jammed .running, .jammed .held, .jammed .closing],
      let d := card s (some job0) [entry 1]
      d.Hears 0 ∧ (d.ctx 0).state = s ∧ (d.ctx 0).session = some (newSession (.card ref0) .bankA) ∧ (d.ctx 0).job = some job0 ∧
      d.path 0 = [entry 1] ∧ (d.slot 0).state = .active ∧ (d.ctx 0).endPending = none ∧ d.HasRoom 0) ∧
    (∀ s ∈ [StationState.opened, .running, .held, .closing, .jammed .running, .jammed .held, .jammed .closing],
      let d := keyed s (some drawJob) [entry 1]
      d.Hears 0 ∧ (d.ctx 0).state = s ∧ (d.ctx 0).session = some (newSession (.account 7) .bankA) ∧ (d.ctx 0).job = some drawJob ∧
      d.path 0 = [entry 1] ∧ d.account 7 = some { acct with openSessions := 1, draws := 200 } ∧ (d.ctx 0).refillAsked = none ∧
      (d.ctx 0).endPending = none ∧ d.HasRoom 0) := by decide +kernel

/-- Every witness of a management request meets `Takes`: the request alone in the queue of a part that may take one. -/
theorem asks_takes (kind : Byte) (params : List Byte) (d : Device) (works : d.Works) (hand : d.mgmt.inHand = none)
    (room : d.mgmt.replies.length < Config.replyCapacity) (restart : d.mgmt.restartTaken = false) :
    (asks kind params d).Takes { tag := 9, kind := kind, params := params } [] := ⟨works, rfl, hand, room, restart⟩

/-- `base` and `shop` may take a request. -/
theorem test_requests_are_taken (kind : Byte) (params : List Byte) :
    (asks kind params base).Takes { tag := 9, kind := kind, params := params } [] ∧
    (asks kind params shop).Takes { tag := 9, kind := kind, params := params } [] :=
  ⟨asks_takes _ _ _ (by decide +kernel) (by decide +kernel) (by decide +kernel) (by decide +kernel),
    asks_takes _ _ _ (by decide +kernel) (by decide +kernel) (by decide +kernel) (by decide +kernel)⟩

/-! ### Ill-formed commands, which the check refuses -/

/-- One ill-formed command for each check of `Instr.wf`. -/
theorem test_wf_refuses :
    (∀ i ∈ [Instr.jam 0 (List.replicate 9 1), .clear 0 (List.replicate 9 (1, 1)), .service 0 [], .service 0 (List.replicate 49 0),
        .card 0 (List.replicate 15 0), .textDown 0 [], .textDown 0 (List.replicate 49 0), .mgmt 0 1 (List.replicate 94 0),
        .stationUnroutedFrame 0 1 9, .stationUnroutedFrame 0 2 0x11, .uplinkUnroutedFrame 0x69],
      i.wf = false) := by decide +kernel

/-! ### Frames written out from R201 to R205 -/

/-- R202: the spec's own test of the check sequence.
A FEED of ordinal 0102 in class LARGE, colour; a RENEW_RESULT of slot 31, generation 5, 65537 units, 240 minutes; a CARD
frame one byte short and a frame cut off by an idle line, both bad (R152); a kind code of the ENGINE endpoint that is not defined
(R158); and the first bytes of a GO of 513 sides. -/
theorem test_check_sequence_and_frames :
    (checkSequence [0x31, 0x32, 0x33, 0x34, 0x35, 0x36, 0x37, 0x38, 0x39] = 0x29B1) ∧
    ((Line.station 3).receiveAll .waiting (framed [4, 1, 2, 1, 2, 2, 1]) =
      (.waiting, [.stationStartDelimiter 3, .feed 3 0x0102 2 1]) ∧
    Line.uplink.receiveAll .waiting (framed [6, 0x61, 31, 5, 1, 0, 1, 240]) =
      (.waiting, [.uplinkStartDelimiter, .renewResult 31 5 65537 240]) ∧
    (Line.station 0).receiveAll .waiting (framed ([15, 2, 0x10] ++ List.replicate 15 0)) =
      (.waiting, [.stationStartDelimiter 0, .stationBadFrame 0]) ∧
    (Line.station 0).receiveAll .waiting [.byte 0x7E, .byte 1, .idleGap] =
      (.waiting, [.stationStartDelimiter 0, .stationBadFrame 0]) ∧
    (Line.station 0).receiveAll .waiting (framed [0, 1, 0x0A]) =
      (.waiting, [.stationStartDelimiter 0, .stationUnroutedFrame 0 1 0x0A]) ∧
    (StationFrame.go 513).bytes.take 6 = [0x7E, 2, 1, 0x20, 2, 1]) := by
  refine ⟨?_, ?_⟩ <;> decide +kernel

/-! ### The machine -/

/-- QueueIsKeptByEveryCommand, StepRunsFrontCommand: a step takes the front command and leaves the rest.
ReleaseOfResetLeavesPowerOnValues: a part under RESET with a carrier absent and something to forget.
ResetSilencesThePart: a frame under RESET changes nothing; RESET stops a receiver.
FramesJoinTheOwnQueue: no carrier, the last free place, a full queue.
OccurrenceSetsPendingClass: an enabled class, pending for the first and for the second time. -/
theorem test_step_takes_front_to_occurrence :
    ((match step ⟨base, [.stationStartDelimiter 0, .timebaseTick]⟩ with
      | .next s => decide (s.pending = [.timebaseTick] ∧ (s.port 0).receiver = .receiving)
      | _ => false) = true) ∧
    (let d := { shop with resetAsserted := true, carrierDetect := shop.carrierDetect.set 3 false }
    d.resetAsserted = true ∧ (after .resetReleased d).resetAsserted = false ∧
    ((after .resetReleased d).ctx 3).state = .offline .carrier ∧ ((after .resetReleased d).ctx 0).dozeTimer = some 1200 ∧
    (after .resetReleased d).accounts = [] ∧ (after .resetReleased d).configs[(0 : Station)] = .defaults) ∧
    (let d := after (.stationStartDelimiter 0) base
    let r := after .resetAsserted d
    (d.port 0).receiver = .receiving ∧ (r.port 0).receiver = .waiting ∧ r.resetAsserted = true ∧
    after (.stop 0) r = r ∧ after .uplinkStartDelimiter r = r) ∧
    (let cut := port0 (fun p => { p with carrier := false }) base
    let f15 := port0 (fun p => { p with ownQueue := List.replicate 15 .wake }) base
    let f16 := port0 (fun p => { p with ownQueue := List.replicate 16 .wake }) base
    (cut.port 0).carrier = false ∧ cut.send 0 .sleep = cut ∧
    (f15.port 0).ownQueue.length = 15 ∧ ((f15.send 0 .sleep).port 0).ownQueue = List.replicate 15 .wake ++ [.sleep] ∧
    (f16.port 0).ownQueue.length = 16 ∧ f16.send 0 .sleep = f16.notice .link (some 0)) ∧
    (let on := { base with notices := base.notices.enable (Vector.replicate 12 true) }
    let once := on.notice .jam (some 3)
    let read := { once with notices := { once.notices with waiting := false } }
    once.notices.waiting = true ∧ once.notices.pending[(4 : Fin 12)] = true ∧
    (read.notice .jam none).notices.waiting = false ∧ (read.notice .jam none).notices.lastStation[(4 : Fin 12)] = none ∧
    (base.notice .jam none).notices.waiting = false) := by
  refine ⟨?_, ?_, ?_, ?_, ?_⟩ <;> decide +kernel

/-! ### Station lines -/

/-- StationLineIsHalfDuplex: the receiver against an idle and a busy transmitter, and the uplink's; frames without a delimiter.
StationLineIsHalfDuplex: what the transmitter begins, what follows a sent frame, and an answer that goes before a text.
IdleStationFollowsItsCarrier: losses from IDLE, DOZE and OFFLINE, returns with the three places they lead to.
CarrierLossTearsSessionDown: from RUNNING with a sheet in the path. -/
theorem test_delimiters_to_carrier_teardown :
    (let busy := port0 (fun p => { p with transmitter := .sending .wake }) rest
    let down := { rest with uplink := { rest.uplink with carrier := false } }
    rest.Works ∧ (rest.port 0).carrier = true ∧ (rest.port 0).transmitter = .idle ∧ rest.uplink.carrier = true ∧
    (after (.stationStartDelimiter 0) rest).Hears 0 ∧ (after .uplinkStartDelimiter rest).HearsUplink ∧
    (busy.port 0).transmitter ≠ .idle ∧ after (.stationStartDelimiter 0) busy = busy ∧
    down.uplink.carrier = false ∧ after .uplinkStartDelimiter down = down ∧
    (rest.port 0).receiver = .waiting ∧ rest.uplink.receiver = .waiting ∧
    (∀ c ∈ [Instr.keyin 0 7 1, .cardOut 0, .stationBadFrame 0, .stationUnroutedFrame 0 1 0x0A],
      c.frameOf = some 0 ∧ after c rest = rest) ∧
    (∀ c ∈ [Instr.voidDone 0 5, .textDown 0 [1], .mgmt 1 2 [], .uplinkBadFrame, .uplinkUnroutedFrame 0],
      c.onUplink = true ∧ after c rest = rest)) ∧
    (let own := port0 (fun p => { p with ownQueue := [.wake, .sleep], textQueue := [[1]] }) rest
    let text := port0 (fun p => { p with textQueue := [[1]] }) rest
    let hearing := after (.stationStartDelimiter 0) own
    let sending := after (.stationTransmitStart 0) own
    (sending.port 0).transmitter = .sending .wake ∧ (sending.port 0).ownQueue = [.sleep] ∧
    ((after (.stationTransmitStart 0) text).port 0).transmitter = .sending (.text [1]) ∧
    after (.stationTransmitStart 0) rest = rest ∧ after (.stationTransmitStart 0) hearing = hearing ∧
    ((after (.start 0 1 1 1 1 0 0) (hears text)).port 0).transmitter = .sending (.deny .noSession) ∧
    ((after (.stop 0) (hears text)).port 0).transmitter = .sending (.text [1]) ∧
    ((after (.stationFrameSent 0) sending).port 0).transmitter = .sending .sleep ∧
    ((after (.stationFrameSent 0) (after (.stationFrameSent 0) sending)).port 0).transmitter = .sending (.text [1]) ∧
    ((after (.stationFrameSent 0) (after (.stationTransmitStart 0) text)).port 0).transmitter = .idle) ∧
    (let lost := after (.stationCarrierLoss 0) base
    let off := { lost with configs := lost.configs.set 0 { StationConfig.defaults with inService := false } }
    base.Works ∧ (base.port 0).carrier = true ∧ (base.ctx 0).state = .idle ∧ (lost.ctx 0).state = .offline .carrier ∧
    ((after (.stationCarrierLoss 0) (at0 .doze base)).ctx 0).state = .offline .carrier ∧
    ((after (.stationCarrierLoss 0) (at0 (.offline .service) base)).ctx 0).state = .offline .service ∧
    lost.Works ∧ (lost.port 0).carrier = false ∧ ((after (.stationCarrierReturn 0) lost).ctx 0).dozeTimer = some 1200 ∧
    ((after (.stationCarrierReturn 0) off).ctx 0).state = .offline .service ∧
    ((after (.stationCarrierReturn 0) (at0 (.offline .service) lost)).ctx 0).state = .offline .service) ∧
    (let d := card .running (some job0) [entry 1]
    let t := after (.stationCarrierLoss 0) d
    d.Works ∧ (d.port 0).carrier = true ∧ (d.ctx 0).state = .running ∧
    (t.ctx 0).state = .offline .carrier ∧ (t.ctx 0).session = none ∧ t.path 0 = [] ∧ out t = [] ∧
    (t.slot 0).state = .voiding ∧ t.reports.length = 1) := by
  refine ⟨?_, ?_, ?_, ?_⟩ <;> decide +kernel

/-- FaultyFramesAreReported.
StationDozesAndWakes.
TickLowersTimersAndLifetimes: a slot that falls due at the margin, one that does not, a running timer, timers at 0 that run out, and
one at 0 whose station is not in the state that it belongs to. -/
theorem test_faulty_frames_to_tick :
    (let bad := after (.stationBadFrame 0) base
    let lost := after (.stationUnroutedFrame 0 1 0x0A) base
    base.Hears 0 ∧ (bad.ctx 0).faults.linkError = true ∧ bad.notices.lastStation[(9 : Fin 12)] = some 0 ∧
    after .uplinkBadFrame base = base.heardUplink.notice .link none ∧
    routedPair 1 0x0A = false ∧ routedPair 3 1 = false ∧ (lost.ctx 0).faults.protocol = true ∧
    routedUplinkKind 0x64 = false ∧ after (.uplinkUnroutedFrame 0x64) base = base.heardUplink.notice .protocol none) ∧
    (let due := ctx0 (fun c => { c with dozeTimer := some 0 }) base
    let dozing := after (.dozeTimerExpiry 0) due
    let deaf := { dozing with configs := dozing.configs.set 0 { StationConfig.defaults with
      wakeMask := { card := false, keyin := false, engineOther := false } } }
    due.Works ∧ (dozing.ctx 0).state = .doze ∧ out dozing = [.sleep] ∧
    let quiet := port0 (fun p => { p with ownQueue := [] }) dozing
    let mute := port0 (fun p => { p with ownQueue := [] }) deaf
    mute.Hears 0 ∧ (Instr.logout 0).wf = true ∧ (Instr.logout 0).wakeClass = some (0, .engineOther) ∧
    mute.configs[(0 : Station)].wakeMask.holds .engineOther = false ∧
    after (.logout 0) mute = (mute.heard 0).notice .touch (some 0) ∧
    ((after (.stationUnroutedFrame 0 3 1) mute).ctx 0).faults.protocol = true ∧
    ((after (.stationUnroutedFrame 0 3 1) mute).ctx 0).state = .doze ∧
    quiet.configs[(0 : Station)].wakeMask.engineOther = true ∧ quiet.configs[(0 : Station)].wakeMask.card = true ∧
    out (after (.stop 0) quiet) = [.wake] ∧ ((after (.stop 0) quiet).ctx 0).state = .idle ∧
    out (after (.start 0 1 1 1 1 0 0) quiet) = [.wake, .deny .noSession] ∧
    after (.cardOut 0) quiet = after (.stop 0) quiet) ∧
    (let d := withSlot { hold0 with lifetime := 121 } (ctx0 (fun c => { c with dozeTimer := some 1, idleTimer := some 0 }) shop)
    let later := withSlot { hold0 with lifetime := 122 } shop
    d.Works ∧ d.mgmt.params.renewalMargin = 120 ∧ ((after .timebaseTick d).ctx 0).dozeTimer = some 0 ∧
    ((after .timebaseTick d).ctx 0).idleTimer = some 0 ∧
    ((after .timebaseTick d).slot 0).state = .renewing ∧ ((after .timebaseTick d).slot 0).lifetime = 120 ∧
    (after .timebaseTick d).payQueue = [{ ref := ref0, kind := .renew }] ∧
    ((after .timebaseTick later).slot 0).state = .active ∧ (after .timebaseTick later).payQueue = [] ∧
    let idle := ctx0 (fun c => { c with idleTimer := some 0 }) (card .opened none [])
    let sent := { withSlot (asking (.outstanding 0)) shop with outstanding := 1 }
    (idle.ctx 0).state = .opened ∧ (idle.ctx 0).idleTimer = some 0 ∧ ((after .timebaseTick idle).ctx 0).state = .idle ∧
    ((after .timebaseTick idle).ctx 0).dozeTimer = some 1199 ∧ out (after .timebaseTick idle) = [.sessionEnd .idle] ∧
    ((after .timebaseTick idle).slot 0).state = .voiding ∧
    (sent.slot 0).request = some { kind := .auth, place := .outstanding 0, funds := false, amount := 0 } ∧
    ((after .timebaseTick sent).slot 0).state = .lapsed ∧ ((after .timebaseTick sent).slot 0).lapseTimer = some 119 ∧
    (after .timebaseTick sent).outstanding = 0) := by
  refine ⟨?_, ?_, ?_⟩ <;> decide +kernel

/-! ### Sessions -/

/-- SessionsWithoutJobEnd: LOGOUT, CARD_OUT and the idle timer in OPEN, with room for the report.
SessionsWithoutJobEnd: the same without room, and the offer made again with room and without.
EndPendingIsMarked.
CardOutAbandonsAuthorization: queued, outstanding, a slot taken again since, one LAPSED, and approved, renewing and expired slots. -/
theorem test_open_session_ends_to_card_out :
    (let d := ctx0 (fun c => { c with idleTimer := some 0 }) (card .opened none [])
    let k := keyed .opened none []
    (d.ctx 0).state = .opened ∧ (d.ctx 0).session = some (newSession (.card ref0) .bankA) ∧ d.Hears 0 ∧ d.HasRoom 0 ∧
    (d.ctx 0).cardSession = true ∧ (d.ctx 0).idleTimer = some 0 ∧
    (∀ c ∈ [(Instr.logout 0, EndReason.logout), (.cardOut 0, .cardOut), (.idleTimerExpiry 0, .idle)],
      let t := after c.1 d
      (t.ctx 0).state = .idle ∧ (t.ctx 0).session = none ∧ t.slot 0 = (d.slot 0).finalized ∧
      t.reports = [d.buildReport 0 (newSession (.card ref0) .bankA) c.2] ∧
      out t = [.sessionEnd c.2] ∧ (t.ctx 0).dozeTimer = some 1200) ∧
    k.Hears 0 ∧ k.HasRoom 0 ∧ ((after (.logout 0) k).account 7).map (·.openSessions) = some 0) ∧
    (let d := noRoom (ctx0 (fun c => { c with idleTimer := some 0 }) (card .opened none []))
    let w := ctx0 (fun c => { c with roomTold := true }) (after (.logout 0) d)
    let told := { w with reports := [report0] }
    (d.ctx 0).state = .opened ∧ d.Hears 0 ∧ d.Works ∧ ¬ d.HasRoom 0 ∧
    after (.logout 0) d =
      ((d.awake 0).enter 0 .closing).modCtx 0 (fun c => { c with endPending := some .logout }) ∧
    ((after (.idleTimerExpiry 0) d).ctx 0).endPending = some .idle ∧
    (w.ctx 0).state = .closing ∧ (w.ctx 0).job = none ∧ (w.ctx 0).roomTold = true ∧ (w.ctx 0).endPending = some .logout ∧
    ¬ w.HasRoom 0 ∧ after (.reportOfferRetry 0) w = w.modCtx 0 (fun c => { c with roomTold := false }) ∧
    told.HasRoom 0 ∧ ((after (.reportOfferRetry 0) told).ctx 0).state = .idle ∧
    ((after (.reportOfferRetry 0) told).reports.map (·.endReason)) = [.logout, .logout]) ∧
    (let d := card (.jammed .closing) (some job0) [entry 1]
    let k := keyed .running (some drawJob) [entry 1]
    let asked := card (.funding ref0) none []
    d.Hears 0 ∧ (d.ctx 0).cardSession = true ∧ ((after (.logout 0) d).ctx 0).endPending = some .logout ∧
    ((after (.cardOut 0) (hears (after (.logout 0) d))).ctx 0).endPending = some .logout ∧
    ((after (.cardOut 0) d).ctx 0).endPending = some .cardOut ∧
    k.Hears 0 ∧ (k.ctx 0).state = .running ∧ (k.ctx 0).cardSession = false ∧ after (.cardOut 0) k = k.heard 0 ∧
    after (.logout 0) (card .closing none []) = (card .closing none []).awake 0 ∧
    after (.cardOut 0) (at0 (.offline .service) base) = (at0 (.offline .service) base).awake 0 ∧
    after (.cardOut 0) base = base.awake 0 ∧
    (asked.ctx 0).state = .funding ref0 ∧ after (.logout 0) asked = asked.heard 0 ∧
    after (.cardOut 0) (keyed .opened none []) = (keyed .opened none []).awake 0) ∧
    (let queued := { funding (asking .queued) with payQueue := [{ ref := ref0, kind := .auth }] }
    let sent := { funding (asking (.outstanding 30)) with outstanding := 1 }
    let gone := funding { asking .queued with generation := 6 }
    queued.Hears 0 ∧ (queued.ctx 0).state = .funding ref0 ∧ (queued.slot 0).generation = ref0.generation ∧
    ((after (.cardOut 0) queued).slot 0).state = .lapsed ∧ ((after (.cardOut 0) queued).slot 0).lapseTimer = some 120 ∧
    (after (.cardOut 0) queued).payQueue = [] ∧ ((after (.cardOut 0) queued).ctx 0).state = .idle ∧
    sent.Hears 0 ∧ ((after (.cardOut 0) sent).slot 0).state = .lapsed ∧ (after (.cardOut 0) sent).outstanding = 0 ∧
    (gone.slot 0).generation ≠ ref0.generation ∧ (after (.cardOut 0) gone).slots = gone.slots ∧
    (let lapsed := funding { Slot.freed 5 with state := .lapsed, lapseTimer := some 7 }
    (after (.cardOut 0) lapsed).slots = lapsed.slots ∧ ((after (.cardOut 0) lapsed).ctx 0).state = .idle) ∧
    (∀ s ∈ [hold0, { hold0 with state := .expired }, with1 .renewing .renew .queued true],
      let d := { funding s with payQueue := s.request.toList.map fun r => { ref := ref0, kind := r.kind } }
      (d.slot 0).generation = ref0.generation ∧ ((after (.cardOut 0) d).slot 0).state = .voiding ∧
      (after (.cardOut 0) d).payQueue = [{ ref := ref0, kind := .void }]) ∧
    let renewing := funding (with1 .renewing .renew (.outstanding 4) true)
    ((after (.cardOut 0) renewing).slot 0).finalWaiting = some .void ∧ (after (.cardOut 0) renewing).payQueue = []) := by
  refine ⟨?_, ?_, ?_, ?_⟩ <;> decide +kernel

/-- KeyinOpensSessionOrIsRefused: success, and each refusal of the check.
CardTakesSlotOrIsDeclined.
ServiceAndManagementFramesAreQueued: at the boundary of each queue.
TextDownJoinsTheTextQueue. -/
theorem test_keyin_to_text_down :
    (let fails := fun n => withAcct { acct with pinFailures := n } shop
    let sent := fun (d : Device) n (p : Half) => out (after (.keyin 0 n p) d)
    shop.Hears 0 ∧ (shop.ctx 0).state = .idle ∧ (shop.tariff.get shop.tariff.selector).loaded = true ∧
    shop.account 7 = some acct ∧ acct.state = .active ∧ acct.pin = 0x1234 ∧
    ((after (.keyin 0 7 0x1234) shop).ctx 0).state = .opened ∧ sent shop 7 0x1234 = [.balance 400] ∧
    ((after (.keyin 0 7 0x1234) shop).account 7).map (·.live.sessions) = some 1 ∧
    (after (.keyin 0 7 0x1234) shop).tariff.bankA.refCount = 1 ∧
    sent base 7 0x1234 = [.deny .noTariff] ∧ sent shop 0 0 = [.deny .noAccount] ∧ sent shop 8 0 = [.deny .noAccount] ∧
    sent (withAcct { acct with state := .closed } shop) 7 0 = [.deny .closed] ∧
    sent (withAcct { acct with state := .stopped } shop) 7 0x1234 = [.deny .stopped] ∧
    sent (fails 3) 7 1 = [.deny .badPin] ∧ ((after (.keyin 0 7 1) (fails 3)).account 7).map (·.state) = some .active ∧
    sent (fails 4) 7 1 = [.deny .badPin] ∧ ((after (.keyin 0 7 1) (fails 4)).account 7).map (·.state) = some .stopped ∧
    (after (.keyin 0 7 1) (fails 4)).notices.lastStation[(6 : Fin 12)] = some 0 ∧
    sent (at0 (.offline .service) shop) 7 1 = [.deny .outOfService] ∧ sent (card .closing none []) 7 1 = [.deny .busy] ∧
    sent (funding (asking .queued)) 7 1 = [.deny .busy]) ∧
    (let token : List Byte := List.replicate 16 1
    let taken := withSlot { hold0 with owner := some 4 } shop
    let owner := { shop with slots := (shop.slots.set 0 hold0).set 1 hold0 }
    let sent := fun (d : Device) => out (after (.card 0 token) d)
    token.length = 16 ∧ taken.Hears 0 ∧ taken.slotsOwned 0 = 0 ∧ (taken.slot 0).state ≠ .free ∧ (taken.slot 1).state = .free ∧
    ((after (.card 0 token) taken).slot 1).state = .authorizing ∧ ((after (.card 0 token) taken).slot 1).asked = some 1000 ∧
    ((after (.card 0 token) taken).ctx 0).state = .funding { slot := 1, generation := 1 } ∧
    (after (.card 0 token) taken).payQueue = [{ ref := { slot := 1, generation := 1 }, kind := .auth }] ∧
    sent base = [.cardDeclined .noTariff] ∧ owner.slotsOwned 0 = 2 ∧ sent owner = [.cardDeclined .busy] ∧
    sent (at0 (.offline .service) shop) = [.cardDeclined .outOfService] ∧ sent (card .held (some job0) []) = [.cardDeclined .busy] ∧
    sent (funding (asking .queued)) = [.cardDeclined .busy]) ∧
    (let items := fun n => { base with serviceUp := List.replicate n { station := 1, payload := [1] } }
    let blocked := { base with configs := base.configs.set 0 { StationConfig.defaults with forward := .block } }
    let requests := fun n => { base with mgmt := { base.mgmt with input := List.replicate n { tag := 1, kind := 9, params := [] } } }
    let long : List Byte := List.replicate 48 7
    (items 15).Hears 0 ∧ ((items 15).ctx 0).state ≠ .doze ∧ long.length = 48 ∧ ((items 15).configs[(0 : Station)]).forward = .pass ∧
    ((after (.service 0 long) (items 15)).serviceUp.getLast?) = some { station := 0, payload := long } ∧
    (after (.service 0 [1]) (items 16)).serviceUp = (items 16).serviceUp ∧
    ((after (.service 0 [1]) (items 16)).ctx 0).faults.uplinkDrop = true ∧
    blocked.configs[(0 : Station)].forward = .block ∧ after (.service 0 [1]) blocked = blocked.awake 0 ∧
    (requests 3).HearsUplink ∧ (after (.mgmt 2 3 [4]) (requests 3)).mgmt.input.length = 4 ∧
    after (.mgmt 2 3 [4]) (requests 4) = (requests 4).heardUplink.notice .uplinkDrop none) ∧
    (let cut := port0 (fun p => { p with carrier := false }) base
    let texts := fun n => at0 .doze (port0 (fun p => { p with textQueue := List.replicate n [1] }) base)
    base.HearsUplink ∧ after (.textDown 16 [2]) base = base.heardUplink.notice .protocol none ∧
    cut.HearsUplink ∧ after (.textDown 0 [2]) cut = cut.heardUplink ∧
    ((after (.textDown 0 [2]) (texts 1)).port 0).textQueue = [[1], [2]] ∧
    ((after (.textDown 0 [2]) (texts 2)).port 0).textQueue = [[1], [1]] ∧
    ((after (.textDown 0 [2]) (texts 2)).ctx 0).faults.uplinkDrop = true ∧
    ((after (.textDown 15 [2]) base).port 15).textQueue = [[2]]) := by
  refine ⟨?_, ?_, ?_, ?_⟩ <;> decide +kernel

/-! ### Jobs and sheets -/

/-- StartIsRefused.
AccountJobIsAdmitted: a draw of the draw size, a draw of what is left, and each refusal.
CardJobIsAdmitted: each answer of the hold.
StartReplacesJob: each answer in a card session and in an account session, and a return of the draw that two waiters take up.
FeedMakesEntryAndSeeksFunds: funded and unfunded entries, the seventh and the eighth place, and what the trigger asks. -/
theorem test_start_refused_to_feed :
    (let sent := fun (d : Device) n => out (after (.start 0 n 1 1 1 0 0) d)
    shop.Hears 0 ∧ sent shop 1 = [.deny .noSession] ∧ sent (funding (asking .queued)) 1 = [.deny .noSession] ∧
    sent (card .held (some job0) []) 1 = [.deny .busy] ∧ sent (card .running (some job0) [entry 1]) 1 = [.deny .busy] ∧
    sent (ctx0 (fun c => { c with endPending := some .logout }) (card .running (some job0) [])) 1 = [.deny .busy] ∧
    sent (at0 (.offline .service) shop) 1 = [.deny .outOfService] ∧
    sent (card .opened none []) 0 = [.deny .badJob] ∧ sent (card .opened none []) 1000 = [.deny .badJob] ∧
    sent (card .opened none []) 999 = [.go 100] ∧
    out (after (.start 0 1 1 1 1 2 0) (card .opened none [])) = [.deny .badJob]) ∧
    (let k := fun (a : Account) => withAcct a (keyed .opened none [])
    let sent := fun (d : Device) => out (after (.start 0 1 1 2 1 1 0) d)
    let d := k { acct with openSessions := 1 }
    d.Hears 0 ∧ (d.ctx 0).state = .opened ∧ (d.ctx 0).refillAsked = none ∧ d.path 0 = [] ∧ (readOrder 1 1 2 1 1 0).isSome = true ∧
    sent d = [.go 20] ∧ ((after (.start 0 1 1 2 1 1 0) d).account 7).map (·.draws) = some 200 ∧
    ((after (.start 0 1 1 2 1 1 0) d).ctx 0).state = .running ∧
    sent (k { acct with spent := 480 }) = [.go 2] ∧ sent (k { acct with spent := 481 }) = [.deny .noFunds] ∧
    sent (k { acct with colourPermitted := false }) = [.deny .notAllowed] ∧ sent (k { acct with maxSize := 0 }) = [.deny .notAllowed] ∧
    sent (k { acct with state := .closed }) = [.deny .closed] ∧ sent (k { acct with state := .stopped }) = [.deny .stopped] ∧
    sent (k { acct with waiting := [{ station := 3, oneSheetPrice := 10 }] }) = [.deny .noFunds]) ∧
    (let c := fun (s : Slot) => withSlot s (card .opened none [])
    let run := fun (s : Slot) => after (.start 0 1 1 2 1 1 0) (c s)
    let sent := fun (s : Slot) => out (run s)
    let short := { hold0 with consumed := 981 }
    (c hold0).Hears 0 ∧ ((c hold0).ctx 0).state = .opened ∧ (c hold0).path 0 = [] ∧
    sent { hold0 with consumed := 980 } = [.go 2] ∧ ((run hold0).ctx 0).state = .running ∧
    sent short = [.pause .funds] ∧ ((run short).ctx 0).state = .held ∧ ((run short).ctx 0).waitTimer = some 90 ∧
    ((run short).slot 0).state = .renewing ∧ (run short).payQueue = [{ ref := ref0, kind := .renew }] ∧
    ((run { short with state := .renewing, request := some { kind := .renew, place := .queued, funds := false, amount := 0 } }).slot
      0).fundsMarked = true ∧
    sent { short with renewalsRefused := true } = [.deny .noFunds] ∧
    ((run { short with approved := 16777215, consumed := 16777215 }).slot 0).renewalsRefused = true ∧
    sent { hold0 with state := .expired } = [.deny .noFunds]) ∧
    (let c := fun (s : Slot) => withSlot s (card .running (some job0) [])
    let run := fun (s : Slot) => after (.start 0 1 1 2 1 1 0) (c s)
    let short := { hold0 with consumed := 981 }
    let a := { acct with openSessions := 1, draws := 200 }
    let k := fun (a : Account) => withAcct a (keyed .running (some drawJob) [])
    let two : List WaitItem := [{ station := 2, oneSheetPrice := 100 }, { station := 3, oneSheetPrice := 150 }]
    let sent := fun (a : Account) => out (after (.start 0 1 1 2 1 1 0) (k a))
    (c hold0).Hears 0 ∧ ((c hold0).ctx 0).state = .running ∧ (c hold0).path 0 = [] ∧ ((c hold0).ctx 0).endPending = none ∧
    out (run hold0) = [.jobEnd .replaced, .go 100] ∧ ((run hold0).ctx 0).session.map (·.jobs) = some 1 ∧
    out (run short) = [.jobEnd .replaced, .pause .funds] ∧ ((run short).slot 0).state = .renewing ∧
    ((run { short with state := .renewing, request := some { kind := .renew, place := .queued, funds := false, amount := 0 } }).slot
      0).fundsMarked = true ∧
    out (run { short with approved := 16777215, consumed := 16777215 }) = [.jobEnd .replaced, .deny .noFunds, .balance 0] ∧
    out (run { hold0 with state := .expired }) = [.jobEnd .replaced, .deny .noFunds, .balance 1000] ∧
    out (after (.start 0 0 1 2 1 1 0) (c hold0)) = [.jobEnd .replaced, .deny .badJob, .balance 1000] ∧
    (k a).Hears 0 ∧ ((k a).ctx 0).refillAsked = none ∧ (k a).account 7 = some a ∧
    sent a = [.jobEnd .replaced, .go 20] ∧ ((after (.start 0 1 1 2 1 1 0) (k a)).account 7).map (·.draws) = some 200 ∧
    out (after (.start 0 0 1 2 1 1 0) (k a)) = [.jobEnd .replaced, .deny .badJob, .balance 400] ∧
    sent { a with colourPermitted := false } = [.jobEnd .replaced, .deny .notAllowed, .balance 400] ∧
    sent { a with state := .closed } = [.jobEnd .replaced, .deny .closed, .balance 400] ∧
    sent { a with state := .stopped } = [.jobEnd .replaced, .deny .stopped, .balance 400] ∧
    sent { a with waiting := two } = [.jobEnd .replaced, .deny .noFunds, .balance 0] ∧
    ((after (.start 0 1 1 2 1 1 0) (k { a with waiting := two })).account 7).map (fun b => (b.draws, b.waiting)) = some (400, []) ∧
    ((after (.start 0 1 1 2 1 1 0) (k { a with waiting := two })).ctx 3).accountMail = [.grant 7 200]) ∧
    (let fed := fun (d : Device) => after (.feed 0 20 0xFF 0xFF) d
    let left := fun n (s : Slot) => withSlot { s with consumed := 1000 - n } (card .running (some job0) [])
    let k := fun n => keyed .running (some (order.job (some n) .none)) []
    (card .running (some job0) []).Hears 0 ∧ ((fed (card .running (some job0) [])).path 0).map (·.funded) = [true] ∧
    ((fed (card .running (some job0) [])).slot 0).provisional = 10 ∧
    ((fed (card .closing (some job0) (fullPath.take 7))).ctx 0).faults.pathFull = true ∧
    ((fed (card .closing (some job0) (fullPath.take 6))).ctx 0).faults.pathFull = false ∧
    ((fed (left 20 hold0)).ctx 0).state = .running ∧ ((fed (left 19 hold0)).ctx 0).state = .held ∧
    ((fed (left 19 hold0)).path 0).map (·.funded) = [true] ∧ ((fed (left 9 hold0)).path 0).map (·.funded) = [false] ∧
    ((fed (left 19 hold0)).slot 0).state = .renewing ∧
    ((fed (left 19 { hold0 with renewalsRefused := true })).ctx 0).job.map (·.fundsEnded) = some true ∧
    (((fed (k 19)).ctx 0).refillAsked = some { number := 7, oneSheetPrice := 10 }) ∧ ((fed (k 20)).ctx 0).refillAsked = none ∧
    ((after (.feed 0 20 3 1) (card .held (some job0) [])).path 0).map (fun e => (e.size, e.colour)) = [(3, .colour)]) := by
  refine ⟨?_, ?_, ?_, ?_, ?_⟩ <;> decide +kernel

/-- SheetFramesOutOfPlaceAreFaults.
ExitDeliversSheet: a funded sheet of each kind of session, an unfunded one, a surplus one.
LastExitCompletesJob: to OPEN, AUTO, and AUTO without room, in a card session and in an account session with two waiters.
JamMarksThePath: into JAMMED without and with a fault, and within it. -/
theorem test_sheet_faults_to_jam :
    (let bad := fun (c : Instr) (d : Device) =>
      after c d = ((d.awake 0).modFaults 0 fun f => { f with protocol := true }).notice .protocol (some 0)
    let jammed := card (.jammed .held) (some job0) [entry 1]
    shop.Hears 0 ∧ bad (.feed 0 1 1 1) shop ∧ bad (.exit 0 1) (funding (asking .queued)) ∧ bad (.jam 0 []) (card .closing none []) ∧
    bad (.clear 0 []) (card .held (some job0) []) ∧ bad (.feed 0 2 1 1) jammed ∧
    bad (.feed 0 1 0xFF 0xFF) (card .running (some job0) [entry 1]) ∧ bad (.exit 0 2) jammed ∧
    ((after (.feed 0 20 0xFF 0xFF) (card .held (some job0) fullPath)).ctx 0).job.map (·.untracked) = some 1 ∧
    (after (.feed 0 20 0xFF 0xFF) (card .held (some job0) fullPath)).path 0 = fullPath) ∧
    (let d := card .running (some job0) [entry 1, entry 2]
    let k := keyed .running (some drawJob) [entry 1, entry 2]
    let u := card .running (some job0) [{ entry 1 with funded := false, provisional := 0, surplus := true }, entry 2]
    d.Hears 0 ∧ d.path 0 = [] ++ entry 1 :: [entry 2] ∧ (after (.exit 0 1) d).path 0 = [entry 2] ∧
    ((after (.exit 0 1) d).slot 0).consumed = 10 ∧ ((after (.exit 0 1) d).slot 0).provisional = 10 ∧
    ((after (.exit 0 1) d).ctx 0).job.map (·.inner) = some 1 ∧
    ((after (.exit 0 1) k).account 7).map (fun a => (a.spent, a.draws)) = some (110, 190) ∧
    ((after (.exit 0 1) k).ctx 0).job.map (·.draw) = some (some 190) ∧
    ((after (.exit 0 1) u).ctx 0).faults.shortfall = true ∧ ((after (.exit 0 1) u).ctx 0).job.map (·.surplus) = some 1 ∧
    ((after (.exit 0 1) u).ctx 0).session.map (·.shortfallAmount) = some 10) ∧
    (let last := { job0 with inner := 1 }
    let d := card .running (some last) [entry 1]
    let auto := card .running (some { last with lastJob := true }) [entry 1]
    d.Hears 0 ∧ last.inner ≤ 1 ∧ last.outer = 1 ∧ (entry 1).funded = true ∧ (d.ctx 0).endPending = none ∧
    ((after (.exit 0 1) d).ctx 0).state = .opened ∧ ((after (.exit 0 1) d).ctx 0).meters.jobsCompleted = 1 ∧
    out (after (.exit 0 1) d) = [.jobEnd .complete, .balance 990] ∧
    auto.HasRoom 0 ∧ out (after (.exit 0 1) auto) = [.jobEnd .complete, .sessionEnd .auto] ∧
    ((after (.exit 0 1) auto).slot 0).state = .capturing ∧
    ¬ (noRoom auto).HasRoom 0 ∧ ((after (.exit 0 1) (noRoom auto)).ctx 0).state = .closing ∧
    let k := keyed .held (some { drawJob with inner := 1 }) [entry 1]
    let autoK := keyed .running (some { drawJob with inner := 1, lastJob := true }) [entry 1]
    let two : List WaitItem := [{ station := 2, oneSheetPrice := 100 }, { station := 3, oneSheetPrice := 150 },
      { station := 0, oneSheetPrice := 10 }]
    let waited := withAcct { acct with openSessions := 1, draws := 200, waiting := two } k
    k.Hears 0 ∧ (k.ctx 0).refillAsked = none ∧ out (after (.exit 0 1) k) = [.jobEnd .complete, .balance 390] ∧
    ((after (.exit 0 1) k).account 7).map (fun b => (b.spent, b.draws)) = some (110, 0) ∧
    out (after (.exit 0 1) waited) = [.jobEnd .complete, .balance 0] ∧
    ((after (.exit 0 1) waited).account 7).map (fun b => (b.draws, b.waiting)) = some (390, []) ∧
    ((after (.exit 0 1) waited).ctx 2).accountMail = [.grant 7 200] ∧
    ((after (.exit 0 1) waited).ctx 3).accountMail = [.grant 7 190] ∧
    autoK.HasRoom 0 ∧ out (after (.exit 0 1) autoK) = [.jobEnd .complete, .sessionEnd .auto] ∧
    ((after (.exit 0 1) autoK).account 7).map (·.openSessions) = some 0 ∧
    (after (.exit 0 1) autoK).reports.map (fun r => (r.funding, r.amountCommitted)) = [(.account 7, 10)] ∧
    ((after (.exit 0 1) (noRoom autoK)).ctx 0).endPending = some .auto ∧
    ((after (.exit 0 1) (noRoom autoK)).account 7).map (·.openSessions) = some 1) ∧
    (let d := card .held (some job0) [entry 1, entry 2]
    let t := after (.jam 0 [2]) d
    d.Hears 0 ∧ (d.ctx 0).job = some job0 ∧ (t.ctx 0).state = .jammed .held ∧ (t.ctx 0).jamTimer = some 900 ∧
    (t.path 0).map (·.mark) = [some .missing, some .named] ∧ (t.ctx 0).faults.protocol = false ∧ (t.ctx 0).meters.jams = 1 ∧
    ((after (.jam 0 [2, 2]) d).ctx 0).faults.protocol = true ∧ ((after (.jam 0 [3]) d).ctx 0).faults.protocol = true ∧
    ((after (.jam 0 [1]) (hears t)).path 0).map (·.mark) = [some .named, some .missing] ∧
    ((after (.jam 0 [1]) (hears t)).ctx 0).meters.jams = 1) := by
  refine ⟨?_, ?_, ?_, ?_⟩ <;> decide +kernel

/-- ClearEndsTheJam: a REFEED among the others, and an empty CLEAR under FORGIVE.
StopIsTaken: with and without a job, a station that waits for its account, and an empty path in each kind of session.
JobTimersRunOut: each kind of session, an account that is STOPPED, and both jam policies. -/
theorem test_clear_to_job_timers :
    (let d := card (.jammed .running) (some job0) [entry 1, entry 2, entry 3]
    let t := after (.clear 0 [(1, 1), (2, 3), (3, 2)]) d
    let e := after (.clear 0 []) d
    d.Hears 0 ∧ (d.ctx 0).state = .jammed .running ∧ ((d.path 0).map (·.ordinal)).Nodup ∧
    d.configs[(0 : Station)].jamPolicy = .forgive ∧
    t.path 0 = [entry 2] ∧ (t.ctx 0).state = .running ∧ (t.slot 0).consumed = 10 ∧ (t.slot 0).provisional = 10 ∧
    (t.ctx 0).job.map (·.spoiled) = some 1 ∧ (t.ctx 0).jamTimer = none ∧
    e.path 0 = [] ∧ (e.ctx 0).job.map (·.forgiven) = some 3 ∧ (e.slot 0).provisional = 0 ∧ out e = [.go 100] ∧
    ((after (.clear 0 [(2, 4)]) d).ctx 0).faults.protocol = true) ∧
    (let d := card .running (some job0) [entry 1]
    let w := withAcct { acct with openSessions := 1, waiting := [{ station := 0, oneSheetPrice := 10 }] }
      (keyed .held (some (order.job (some 0) .waiting)) [entry 1])
    shop.Hears 0 ∧ after (.stop 0) shop = shop.awake 0 ∧
    d.Hears 0 ∧ after (.stop 0) d = (d.heard 0).modJob 0 (fun j => { j with stopPending := true }) ∧
    after (.stop 0) (hears (after (.stop 0) d)) = after (.stop 0) d ∧
    ((after (.stop 0) (card (.jammed .held) (some job0) [])).ctx 0).job.map (·.stopPending) = some true ∧
    w.Hears 0 ∧ (w.ctx 0).refillAsked = none ∧ ((after (.stop 0) w).account 7).map (·.waiting) = some [] ∧
    ((after (.stop 0) w).ctx 0).job.map (·.fundsRequest) = some .none ∧
    out (after (.stop 0) (card .held (some job0) [])) = [.jobEnd .stopped, .balance 1000] ∧
    ((after (.stop 0) (card .held (some job0) [])).ctx 0).state = .opened ∧
    let e := withAcct { acct with openSessions := 1, draws := 200, waiting := [{ station := 3, oneSheetPrice := 350 }] }
      (keyed .running (some drawJob) [])
    e.Hears 0 ∧ (e.ctx 0).refillAsked = none ∧ out (after (.stop 0) e) = [.jobEnd .stopped, .balance 50] ∧
    ((after (.stop 0) e).account 7).map (fun b => (b.draws, b.waiting)) = some (350, [])) ∧
    (let h := ctx0 (fun c => { c with waitTimer := some 0 }) (card .held (some job0) [])
    let r := withSlot { hold0 with renewalsRefused := true } h
    let j := ctx0 (fun c => { c with jamTimer := some 0 }) (card (.jammed .held) (some job0) [entry 1, entry 2])
    h.Works ∧ (h.ctx 0).waitTimer = some 0 ∧ (h.ctx 0).endPending = none ∧
    ((after (.waitTimerExpiry 0) h).ctx 0).state = .opened ∧
    out (after (.waitTimerExpiry 0) h) = [.jobEnd .funds, .balance 1000] ∧
    r.HasRoom 0 ∧ out (after (.waitTimerExpiry 0) r) = [.jobEnd .funds, .sessionEnd .fundsEnded] ∧
    (j.ctx 0).jamTimer = some 0 ∧ ((j.path 0).map (·.ordinal)).Nodup ∧ j.configs[(0 : Station)].jamPolicy = .forgive ∧
    ((after (.jamTimerExpiry 0) j).ctx 0).state = .opened ∧ ((after (.jamTimerExpiry 0) j).slot 0).provisional = 0 ∧
    (after (.jamTimerExpiry 0) j).notices.lastStation[(3 : Fin 12)] = some 0 ∧
    let k := fun (a : Account) => withAcct { a with openSessions := 1, draws := 200 } (ctx0 (fun c => { c with waitTimer := some 0 })
      (keyed .held (some drawJob) []))
    let charged := fun (d : Device) => { ctx0 (fun c => { c with jamTimer := some 0 }) d with
      configs := d.configs.set 0 { StationConfig.defaults with jamPolicy := .charge } }
    let mixed := [entry 1, { entry 2 with funded := false, provisional := 0, sides := 2, price := 20 }]
    let c := after (.jamTimerExpiry 0) (charged (card (.jammed .running) (some job0) mixed))
    let a := after (.jamTimerExpiry 0) (charged (keyed (.jammed .closing) (some drawJob) mixed))
    let f := after (.jamTimerExpiry 0) (ctx0 (fun c => { c with jamTimer := some 0 }) (keyed (.jammed .held) (some drawJob) mixed))
    out (after (.waitTimerExpiry 0) (k acct)) = [.jobEnd .funds, .balance 400] ∧
    ((after (.waitTimerExpiry 0) (k acct)).account 7).map (·.draws) = some 0 ∧
    (k acct).HasRoom 0 ∧
    out (after (.waitTimerExpiry 0) (k { acct with state := .stopped })) = [.jobEnd .funds, .sessionEnd .fundsEnded] ∧
    out c = [.jobEnd .abandoned, .balance 990] ∧ (c.slot 0).consumed = 10 ∧ (c.slot 0).provisional = 0 ∧
    (c.ctx 0).session.map (fun s => (s.amountCommitted, s.shortfallAmount, s.shortfallSides, s.forgiven)) = some (10, 20, 2, 0) ∧
    (c.ctx 0).meters.deliveredSides[priceClass 1 .mono] = 3 ∧
    out a = [.jobEnd .abandoned, .balance 390] ∧ (a.account 7).map (fun b => (b.spent, b.draws, b.live.amount)) = some (110, 0, 10) ∧
    out f = [.jobEnd .abandoned, .balance 400] ∧ (f.account 7).map (fun b => (b.spent, b.draws)) = some (100, 0) ∧
    (f.ctx 0).session.map (·.forgiven) = some 2) := by
  refine ⟨?_, ?_, ?_⟩ <;> decide +kernel

/-! ### The uplink line -/

/-- UplinkCarrierIsFollowed: held frames that stand, by kind, some that do not, and none.
ArbiterChoosesFirstReadySource: each source with all the later ones ready.
PaymentRequestIsSent: each kind of request, at one below the limit.
SentUplinkFrameIsReported: what each source does.
SentUplinkFrameIsReported: the walk goes on to the next account with a CLOSED record. -/
theorem test_uplink_carrier_to_walk_goes_on :
    (let held := fun (s : Slot) =>
      { withSlot s shop with uplink := { shop.uplink with transmitter := .holding .payment (.capture ref0 (some 77) 25) } }
    let lost := fun (s : Slot) => after .uplinkCarrierLoss (held s)
    let waits := with1 .capturing .capture (.outstanding 3) false
    (held waits).Works ∧ (held waits).uplink.carrier = true ∧
    (lost waits).uplink.transmitter = .holding .payment (.capture ref0 (some 77) 25) ∧
    (lost waits).notices.pending[(5 : Fin 12)] = true ∧ (lost waits).uplink.carrier = false ∧
    (after .uplinkCarrierReturn (lost waits)).uplink.transmitter = .holding .payment (.capture ref0 (some 77) 25) ∧
    (after .uplinkCarrierReturn (lost hold0)).uplink = { carrier := true, receiver := .waiting, transmitter := .free } ∧
    (after .uplinkCarrierReturn (after .uplinkCarrierLoss base)).uplink.carrier = true ∧
    let keeps := fun (s : Slot) (source : Source) (f : UplinkFrame) => (after .uplinkCarrierReturn
      { withSlot s shop with
        uplink := { carrier := false, receiver := .waiting, transmitter := .holding source f } }).uplink.transmitter == .holding source f
    let auth := UplinkFrame.authReq ref0 (some 0) (List.replicate 16 1) 1000
    let renew := UplinkFrame.renewReq ref0 (some 77) 2000
    let void := UplinkFrame.void (some ref0) (some 77)
    keeps (asking (.outstanding 9)) .payment auth ∧ ¬ keeps { asking (.outstanding 9) with generation := 6 } .payment auth ∧
    keeps (with1 .renewing .renew (.outstanding 9) true) .payment renew ∧ ¬ keeps (asking (.outstanding 9)) .payment renew ∧
    keeps (with1 .voiding .void (.outstanding 9) false) .payment void ∧ ¬ keeps (with1 .voiding .void .queued false) .payment void ∧
    keeps hold0 .payment (.void none (some 5)) ∧ keeps hold0 .serviceUp (.serviceUp 0 [1]) ∧
    keeps hold0 .notice (.notice (Vector.replicate 12 true) none (Vector.replicate 12 none))) ∧
    (let frame := fun (d : Device) => match (after .arbiterChoice d).uplink.transmitter with
      | .holding source _ => some source
      | .free => none
    let reply : Reply := { tag := 1, status := .ok, data := .none }
    let billing := { base with exporting := { base.exporting with frame := some (.finish 4 0) } }
    let up := { billing with serviceUp := [{ station := 1, payload := [1] }] }
    let reports := { up with reports := [report0] }
    let notice := (after .noticeEnable (asks 0x1E [0x0F, 0xFF] reports)).notice .jam (some 2)
    let notices := { notice with mgmt := { notice.mgmt with replies := [] } }
    let stale := { notices with staleVoids := [5, 6], payQueue := [{ ref := ref0, kind := .renew }], outstanding := 4 }
    let replies := { stale with mgmt := { stale.mgmt with replies := [reply] } }
    base.Works ∧ base.uplink.carrier = true ∧ base.uplink.transmitter = .free ∧ base.mgmt.params.outstandingLimit = 4 ∧
    after .arbiterChoice base = base ∧ frame billing = some .billing ∧ frame up = some .serviceUp ∧
    frame reports = some .sessionReport ∧ frame notices = some .notice ∧
    (after .arbiterChoice notices).notices.waiting = false ∧ frame stale = some .payment ∧
    (after .arbiterChoice stale).staleVoids = [6] ∧ frame { stale with staleVoids := [] } = some .notice ∧
    frame replies = some .reply ∧ frame { billing with exporting := { billing.exporting with frame := some (.bill 4 7 .zero) } } =
      some .billing ∧ after .arbiterChoice (after .arbiterChoice up) = after .arbiterChoice up) ∧
    (let queue := fun (k : RequestKind) (s : Slot) =>
      { withSlot s shop with payQueue := [{ ref := ref0, kind := k }], outstanding := 3 }
    let frame := fun (k : RequestKind) (s : Slot) => (after .arbiterChoice (queue k s)).uplink.transmitter
    let renew := with1 .renewing .renew .queued
    (queue .renew (renew true)).Works ∧ (queue .renew (renew true)).outstanding < shop.mgmt.params.outstandingLimit ∧
    frame .renew (renew true) = .holding .payment (.renewReq ref0 (some 77) 2000) ∧
    frame .renew (renew false) = .holding .payment (.renewReq ref0 (some 77) 1000) ∧
    frame .renew { renew true with approved := 16777000 } = .holding .payment (.renewReq ref0 (some 77) 16777215) ∧
    frame .auth (asking .queued) = .holding .payment (.authReq ref0 (some 0) (List.replicate 16 1) 1000) ∧
    ((after .arbiterChoice (queue .auth (asking .queued))).slot 0).token = none ∧
    frame .capture (with1 .capturing .capture .queued false) = .holding .payment (.capture ref0 (some 77) 25) ∧
    frame .void (with1 .voiding .void .queued false) = .holding .payment (.void (some ref0) (some 77)) ∧
    (after .arbiterChoice (queue .renew (renew true))).outstanding = 4 ∧
    ((after .arbiterChoice (queue .renew (renew true))).slot 0).request =
      some { kind := .renew, place := .outstanding 30, funds := true, amount := 25 }) ∧
    (let reply : Reply := { tag := 1, status := .ok, data := .none }
    let holds := fun (source : Source) (d : Device) =>
      { d with uplink := { d.uplink with transmitter := .holding source (.reply reply) } }
    let sent := fun (source : Source) (d : Device) => after .uplinkFrameSent (holds source d)
    let replies := fun (n : Nat) (r : Bool) =>
      { shop with mgmt := { shop.mgmt with replies := List.replicate n reply, restartTaken := r } }
    let waits := { card .closing none [] with reports := [report0, report0] }
    let billed := { withAcct { acct with closedRecord := acct.live.addSheet 0 1 10 } shop with
      exporting := { shop.exporting with
        running := true, exportedPeriod := 4, billsExpected := 1, frame := some (.bill 4 7 (acct.live.addSheet 0 1 10)) } }
    (holds .reply (replies 1 false)).Works ∧ (holds .reply (replies 1 false)).uplink.carrier = true ∧
    (sent .reply (replies 1 false)).mgmt.replies = [] ∧ (sent .reply (replies 2 true)).mgmt.replies = [reply] ∧
    (sent .reply (replies 1 false)).accounts = [acct] ∧ (sent .reply (replies 1 true)).accounts = [] ∧
    sent .payment shop = shop ∧ sent .notice shop = shop ∧
    (sent .sessionReport waits).reports = [report0] ∧ ((sent .sessionReport waits).ctx 0).roomTold = true ∧
    ((sent .sessionReport waits).ctx 1).roomTold = false ∧
    (sent .serviceUp { shop with serviceUp := [{ station := 1, payload := [1] }] }).serviceUp = [] ∧
    (sent .billing billed).exporting.frame = some (.finish 4 1) ∧ (sent .billing billed).exporting.cursor = 7 ∧
    ((sent .billing billed).account 7).map (·.closedRecord) = some .zero ∧
    (sent .billing (sent .billing billed)).exporting.running = false ∧
    (sent .billing (sent .billing billed)).notices.pending[(10 : Fin 12)] = true) ∧
    (let rec0 := acct.live.addSheet 0 1 10
    let d := { shop with
      accounts := [acct, { acct with number := 8 }, { acct with number := 9, closedRecord := rec0 }]
      exporting := { shop.exporting with running := true, exportedPeriod := 4, frame := some (.bill 4 7 rec0) }
      uplink := { shop.uplink with transmitter := .holding .billing (.bill 4 7 rec0) } }
    (after .uplinkFrameSent d).exporting.frame = some (.bill 4 9 rec0)) := by
  refine ⟨?_, ?_, ?_, ?_, ?_⟩ <;> decide +kernel

/-! ### Results and timers of the payment unit -/

/-- AuthResultIsTaken: matched, late and stale results, with the lifetime at the margin and above it.
RenewalEnds: approvals, refusals, timeouts, and an outcome behind a waiting final request.
FinalRequestFreesSlot, and the results that are stale.
SlotTimersRunOut. -/
theorem test_auth_result_to_slot_timers :
    (let sent := { withSlot (asking (.outstanding 30)) shop with outstanding := 1 }
    let late := withSlot { Slot.freed 5 with state := .lapsed, owner := some 0, lapseTimer := some 3 } shop
    let voids := fun n => { withSlot hold0 shop with staleVoids := List.replicate n 1 }
    let yes := fun (d : Device) life => after (.authResult 0 5 900 life (some 78)) d
    let no := fun (d : Device) => after (.authResult 0 5 0 3 none) d
    sent.HearsUplink ∧ (sent.slot 0).state = .authorizing ∧ sent.mgmt.params.renewalMargin = 120 ∧
    ((yes sent 3).slot 0).state = .active ∧ ((yes sent 3).slot 0).lifetime = 180 ∧ ((yes sent 3).slot 0).approved = 900 ∧
    ((yes sent 2).slot 0).state = .renewing ∧ ((yes sent 0).slot 0).lifetime = 60 ∧ ((yes sent 255).slot 0).lifetime = 14400 ∧
    (yes sent 3).outstanding = 0 ∧ (yes sent 3).payReports = [{ kind := .approval, station := 0, ref := ref0 }] ∧
    (no sent).slot 0 = Slot.freed 5 ∧ (no sent).payReports = [{ kind := .decline, station := 0, ref := ref0 }] ∧
    ((yes late 3).slot 0).state = .voiding ∧ (yes late 3).payQueue = [{ ref := ref0, kind := .void }] ∧
    (no late).slot 0 = Slot.freed 5 ∧ no (voids 0) = (voids 0).heardUplink ∧ (yes (voids 3) 3).staleVoids = [1, 1, 1, 78] ∧
    yes (voids 4) 3 = (voids 4).heardUplink.notice .paymentUnconfirmed none ∧
    after (.authResult 0 5 900 3 (some 77)) (voids 0) = (voids 0).heardUplink ∧
    (after (.authResult 0 6 900 3 (some 77)) (voids 0)).staleVoids = [77]) ∧
    (let out := fun (n : Nat) (funds : Bool) => { withSlot (with1 .renewing .renew (.outstanding n) funds) shop with outstanding := 1 }
    let behind := fun (n : Nat) => { withSlot { with1 .capturing .renew (.outstanding n) false with
      finalWaiting := some (.capture 25) } shop with outstanding := 1 }
    let result := fun (d : Device) (a : Amount24) (life : Byte) => after (.renewResult 0 5 a life) d
    (out 9 true).HearsUplink ∧ ((out 9 true).slot 0).state = .renewing ∧
    ((result (out 9 true) 1000 3).slot 0).state = .active ∧ ((result (out 9 true) 1000 2).slot 0).state = .renewing ∧
    (result (out 9 true) 1000 3).payReports = [{ kind := .renewalApproval, station := 0, ref := ref0 }] ∧
    (result (out 9 false) 2000 3).payReports = [] ∧ ((result (out 9 false) 2000 3).slot 0).approved = 2000 ∧
    ((result (out 9 true) 999 3).slot 0).renewalsRefused = true ∧ ((result (out 9 false) 0 3).slot 0).state = .active ∧
    (result (out 9 true) 999 3).payReports = [{ kind := .renewalRefusal, station := 0, ref := ref0 }] ∧
    ((after (.renewTimeout 0) (out 0 true)).slot 0).renewalsRefused = true ∧ after (.renewTimeout 0) (out 1 true) = out 1 true ∧
    (result (behind 9) 2000 3).payQueue = [{ ref := ref0, kind := .capture }] ∧
    ((after (.renewTimeout 0) (behind 0)).slot 0).request =
      some { kind := .capture, place := .queued, funds := false, amount := 25 }) ∧
    (let c := fun (n : Nat) => { withSlot (with1 .capturing .capture (.outstanding n) false) shop with outstanding := 1 }
    let v := { withSlot (with1 .voiding .void (.outstanding 0) false) shop with outstanding := 1 }
    (c 9).HearsUplink ∧ (after (.captureDone 0 5 1) (c 9)).slot 0 = Slot.freed 5 ∧ (after (.captureDone 0 5 1) (c 9)).outstanding = 0 ∧
    (after (.captureDone 0 5 1) (c 9)).notices.pending[(1 : Fin 12)] = false ∧
    (after (.captureDone 0 5 2) (c 9)).notices.lastStation[(1 : Fin 12)] = some 0 ∧
    (after (.voidDone 0 5) v).slot 0 = Slot.freed 5 ∧ (after (.voidDone 0 5) v).notices.pending[(1 : Fin 12)] = false ∧
    (after (.finalRequestTimeout 0) (c 0)).notices.lastStation[(1 : Fin 12)] = some 0 ∧
    (after (.finalRequestTimeout 0) v).slot 0 = Slot.freed 5 ∧
    after (.captureDone 0 4 1) (c 9) = (c 9).heardUplink ∧ after (.voidDone 32 5) v = v.heardUplink ∧
    after (.renewResult 0 5 9 9) v = v.heardUplink) ∧
    (let a := { withSlot (asking (.outstanding 0)) shop with outstanding := 1 }
    let l := withSlot { Slot.freed 5 with state := .lapsed, lapseTimer := some 0 } shop
    let e := withSlot { hold0 with lifetime := 0 } shop
    let queued := { withSlot { with1 .renewing .renew .queued true with lifetime := 0 } shop with
      payQueue := [{ ref := ref0, kind := .renew }] }
    let sent := { withSlot { with1 .renewing .renew (.outstanding 4) true with lifetime := 0 } shop with outstanding := 1 }
    a.Works ∧ ((after (.authTimeout 0) a).slot 0).state = .lapsed ∧ ((after (.authTimeout 0) a).slot 0).lapseTimer = some 120 ∧
    (after (.authTimeout 0) a).payReports = [{ kind := .timeout, station := 0, ref := ref0 }] ∧
    (after (.lapseTimerExpiry 0) l).slot 0 = Slot.freed 5 ∧
    ((after (.holdExpiry 0) e).slot 0).state = .expired ∧ (after (.holdExpiry 0) e).notices.lastStation[(0 : Fin 12)] = some 0 ∧
    (after (.holdExpiry 0) queued).payQueue = [] ∧ (after (.holdExpiry 0) sent).outstanding = 0 ∧
    (after (.holdExpiry 0) sent).payReports = [{ kind := .expiry, station := 0, ref := ref0 }]) := by
  refine ⟨?_, ?_, ?_, ?_⟩ <;> decide +kernel

/-! ### Reports between the blocks -/

/-- AuthorizationReportsReachTheStation.
RenewalReportsReachTheJob.
FundingIsLost.
RefillIsAnsweredAndReachesTheJob.
GrantFundsTheWaitingJob. -/
theorem test_auth_reports_to_grant :
    (let f := funding hold0
    let sent := fun (c : Instr) (k : ReportKind) => (after c (told k f)).port 0
    (told .approval f).Works ∧ ((told .approval f).ctx 0).state = .funding ref0 ∧
    ((after (.authApprovalReport 0) (told .approval f)).ctx 0).state = .opened ∧
    (sent (.authApprovalReport 0) .approval).ownQueue = [.cardAccepted, .balance 1000] ∧
    (sent (.authDeclineReport 0) .decline).ownQueue = [.cardDeclined .declined] ∧
    (sent (.authTimeoutReport 0) .timeout).ownQueue = [.cardDeclined .timeout] ∧
    ((after (.authTimeoutReport 0) (told .timeout f)).ctx 0).state = .idle ∧
    after (.authApprovalReport 0) (told .approval shop) = shop ∧ after (.authDeclineReport 0) (told .decline shop) = shop ∧
    after (.authTimeoutReport 0) (told .timeout shop) = shop) ∧
    (let waits := some { job0 with fundsRequest := .renew }
    let yes := fun (d : Device) => after (.renewalApprovalReport 0) (told .renewalApproval d)
    let no := fun (d : Device) => after (.renewalRefusalReport 0) (told .renewalRefusal d)
    let poor := withSlot { hold0 with consumed := 991, renewalsRefused := true } (card .held waits [])
    (card .held waits []).Works ∧ ((yes (card .held waits [])).ctx 0).state = .running ∧
    out (yes (card .held waits [])) = [.go 100] ∧
    yes (card .held (some job0) []) = card .held (some job0) [] ∧ no (card .held (some job0) []) = card .held (some job0) [] ∧
    ((yes poor).ctx 0).job.map (·.fundsEnded) = some true ∧ ((yes (card (.jammed .held) waits [])).ctx 0).state = .jammed .running ∧
    ((no (card .held waits [entry 1])).ctx 0).job.map (·.fundsEnded) = some true ∧
    ((no (card (.jammed .held) waits [])).ctx 0).state = .jammed .held ∧
    poor.HasRoom 0 ∧ out (no poor) = [.jobEnd .funds, .sessionEnd .fundsEnded] ∧
    let short := fun (s : StationState) (stop : Bool) => yes (withSlot { hold0 with consumed := 991 }
      (card s (some { job0 with fundsRequest := .renew, stopPending := stop }) []))
    (∀ s ∈ [(StationState.held, false), (.jammed .held, false), (.jammed .held, true)],
      ((short s.1 s.2).slot 0).state = .renewing ∧ ((short s.1 s.2).ctx 0).job.map (·.fundsRequest) = some .renew ∧
      out (short s.1 s.2) = []) ∧
    ((short .held true).slot 0).state = .active ∧ ((short .held true).ctx 0).job.map (·.fundsRequest) = some .none ∧
    ((yes (at0 (.jammed .held) poor)).ctx 0).job.map (·.fundsEnded) = some true) ∧
    (let expired := fun (d : Device) => after (.holdExpiryReport 0) (told .expiry d)
    let closed := fun (d : Device) => after (.accountCloseReport 0) (mailed (.closed 7) d)
    (card .opened none []).Works ∧ (card .opened none []).HasRoom 0 ∧ ((expired (card .opened none [])).ctx 0).state = .idle ∧
    (expired (card .opened none [])).reports.map (·.endReason) = [.holdExpired] ∧
    ((expired (noRoom (card .opened none []))).ctx 0).endPending = some .holdExpired ∧
    ((expired (card .running (some job0) [entry 1])).ctx 0).state = .closing ∧
    out (expired (card .held (some job0) [entry 1])) = [.pause .funds] ∧
    ((expired (card (.jammed .held) (some { job0 with fundsRequest := .renew }) [])).ctx 0).state = .jammed .closing ∧
    expired (card .closing (some job0) [entry 1]) = card .closing (some job0) [entry 1] ∧
    (closed (keyed .opened none [])).reports.map (·.endReason) = [.accountClosed] ∧
    ((closed (keyed .running (some drawJob) [entry 1])).ctx 0).endPending = some .accountClosed ∧
    ((closed (keyed (.jammed .running) (some drawJob) [])).ctx 0).state = .jammed .closing ∧
    let gone := fun (j : Job) => withSlot { hold0 with state := .expired } (card .running (some j) [])
    let k := withAcct { acct with openSessions := 1, draws := 200, state := .closed } (keyed .held (some drawJob) [])
    out (expired (gone job0)) = [.pause .funds, .jobEnd .funds, .sessionEnd .holdExpired] ∧
    out (expired (gone { job0 with stopPending := true })) = [.pause .funds, .jobEnd .stopped, .sessionEnd .holdExpired] ∧
    out (expired (gone { job0 with outer := 0 })) = [.pause .funds, .jobEnd .complete, .sessionEnd .holdExpired] ∧
    ((expired (gone { job0 with outer := 0 })).ctx 0).meters.jobsCompleted = 1 ∧
    ((expired (gone job0)).ctx 0).state = .idle ∧ ((expired (gone job0)).slot 0).state = .voiding ∧
    ((expired (noRoom (gone job0))).ctx 0).state = .closing ∧ out (expired (noRoom (gone job0))) = [.pause .funds, .jobEnd .funds] ∧
    ((expired (noRoom (gone job0))).ctx 0).endPending = some .holdExpired ∧
    (k.ctx 0).refillAsked = none ∧ out (closed k) = [.pause .funds, .jobEnd .funds, .sessionEnd .accountClosed] ∧
    ((closed k).account 7).map (fun b => (b.openSessions, b.draws)) = some (0, 0) ∧
    ((closed (noRoom k)).account 7).map (fun b => (b.openSessions, b.draws)) = some (1, 0) ∧
    ((closed (noRoom k)).ctx 0).state = .closing) ∧
    (let asked := fun (a : Account) => ctx0 (fun c => { c with refillAsked := some { number := 7, oneSheetPrice := 10 } })
      (withAcct a (keyed .running (some { drawJob with fundsRequest := .refill }) [entry 1]))
    let mail := fun (a : Account) => ((after (.accountRefill 0) (asked a)).ctx 0).accountMail
    let took := fun (s : StationState) (stop : Bool) (r : RefillReply) => after (.refillAnswer 0) (mailed (.refill 7 r)
      (keyed s (some { drawJob with fundsRequest := .refill, stopPending := stop }) [entry 1]))
    (asked acct).Works ∧ mail acct = [.refill 7 (.granted 200)] ∧ mail { acct with spent := 490 } = [.refill 7 (.granted 10)] ∧
    mail { acct with spent := 491 } = [.refill 7 .waiting] ∧ mail { acct with state := .stopped } = [.refill 7 .refused] ∧
    ((after (.accountRefill 0) (asked acct)).account 7).map (·.draws) = some 200 ∧
    out (took .running false (.granted 50)) = [.go 24] ∧
    out (took .running true (.granted 50)) = [] ∧
    ((took (.jammed .running) false (.granted 50)).ctx 0).job.map (·.draw) = some (some 250) ∧
    ((took .running false .waiting).ctx 0).state = .held ∧ out (took .running false .waiting) = [.pause .funds] ∧
    ((took (.jammed .running) false .waiting).ctx 0).state = .jammed .held ∧
    ((took .closing false .waiting).ctx 0).job.map (·.fundsRequest) = some .none ∧
    ((took .running false .refused).ctx 0).job.map (·.fundsEnded) = some true ∧
    ((took (.jammed .running) false .refused).ctx 0).state = .jammed .held ∧
    ((took .running true .refused).ctx 0).state = .running ∧
    let two : List WaitItem := [{ station := 2, oneSheetPrice := 100 }, { station := 3, oneSheetPrice := 80 }]
    let busy := withAcct { acct with draws := 400, waiting := two } (keyed .running (some drawJob) [])
    let late := fun (r : RefillReply) (d : Device) => after (.refillAnswer 0) (mailed (.lateRefill 7 r) d)
    ((late (.granted 300) busy).account 7).map (fun b => (b.draws, b.waiting)) = some (400, []) ∧
    ((late (.granted 300) busy).ctx 2).accountMail = [.grant 7 200] ∧ ((late (.granted 300) busy).ctx 3).accountMail = [.grant 7 100] ∧
    ((late (.granted 300) busy).ctx 0).job = some drawJob ∧ late .waiting busy = busy ∧ late .refused busy = busy ∧
    ((after (.start 0 1 1 2 1 1 0) (mailed (.refill 7 .waiting) (keyed .running (some drawJob) []))).ctx 0).accountMail =
      [.lateRefill 7 .waiting]) ∧
    (let waits := fun (s : StationState) => mailed (.grant 7 50) (keyed s (some (order.job (some 0) .waiting)) [])
    (waits .held).Works ∧ ((after (.waitingListGrant 0) (waits .held)).ctx 0).state = .running ∧
    out (after (.waitingListGrant 0) (waits .held)) = [.go 5] ∧
    ((after (.waitingListGrant 0) (waits (.jammed .held))).ctx 0).state = .jammed .running ∧
    (shop.ctx 0).requested .waiting = false ∧
    ((after (.waitingListGrant 0) (mailed (.grant 7 50) (withAcct { acct with draws := 60 } shop))).account 7).map (·.draws) =
      some 10 ∧
    let two : List WaitItem := [{ station := 2, oneSheetPrice := 100 }, { station := 3, oneSheetPrice := 300 }]
    let back := after (.waitingListGrant 0) (mailed (.grant 7 250) (withAcct { acct with draws := 350, waiting := two } shop))
    (back.account 7).map (fun b => (b.draws, b.waiting.map (·.station))) = some (300, [3]) ∧
    (back.ctx 2).accountMail = [.grant 7 200] ∧ (back.ctx 3).accountMail = []) := by
  refine ⟨?_, ?_, ?_, ?_, ?_⟩ <;> decide +kernel

/-! ### Management requests -/

/-- RequestsCheckedOrReadChangeNothing: the three checks.
RequestsCheckedOrReadChangeNothing: the readings.
AccountEntriesArePutAndDeleted.
AccountStateAndCreditAreTaken. -/
theorem test_request_checks_to_account_state :
    (lastReply (after .unknownRequest (asks 0x06 [] base)) = some (.unknown, .none) ∧
    lastReply (after .configGet (asks 0x0D [0] base)) = some (.badValue, .none) ∧
    lastReply (after .stationGet (asks 0x10 [16, 0] base)) = some (.badValue, .none) ∧
    (lastReply (after .stationGet (asks 0x10 [15, 4] base))).map (·.1) = some .ok) ∧
    (let reads := fun (c : Instr) (kind : Byte) (params : List Byte) (d : Device) => lastReply (after c (asks kind params d))
    let d := card .running (some job0) [entry 1]
    reads .configGet 0x0D [] shop = some (.ok, .config (asks 0x0D [] shop).configView) ∧
    reads .stationGet 0x10 [0, 0] d = some (.ok, .state (d.stateView 0)) ∧
    reads .stationGet 0x10 [0, 1] d = some (.ok, .session 0 (some (newSession (.card ref0) .bankA))) ∧
    reads .stationGet 0x10 [0, 2] d = some (.ok, .job 0 (some job0)) ∧
    reads .stationGet 0x10 [0, 3] d = some (.ok, .path 0 [entry 1]) ∧ reads .stationGet 0x10 [0, 5] d = some (.badValue, .none) ∧
    reads .holdGet 0x18 [0] d = some (.ok, .hold (d.holdView 0)) ∧ reads .holdGet 0x18 [32] d = some (.badValue, .none) ∧
    reads .accountGet 0x03 [0, 0, 7, 0] shop = some (.ok, .entry acct.entryView) ∧
    reads .accountGet 0x03 [0, 0, 7, 2] shop = some (.ok, .period 7 2 .zero) ∧
    reads .accountGet 0x03 [0, 0, 7, 3] shop = some (.badValue, .none) ∧
    reads .accountGet 0x03 [0, 0, 8, 1] shop = some (.notFound, .none) ∧
    (after .accountGet (asks 0x03 [0, 0, 7, 0] shop)).accounts = [acct]) ∧
    (let put := fun (n limit spent size : Byte) (d : Device) =>
      after .accountPut (asks 0x01 [0, 0, n, 0, 5, 0, 0, limit, 0, 0, spent, 1, size] d)
    let status := fun (d : Device) => (lastReply d).map (·.1)
    let delete := fun (d : Device) => after .accountDelete (asks 0x02 [0, 0, 7] d)
    let small := withAcct { acct with limit := 150 } shop
    (put 8 200 100 3 shop).accounts.map (·.number) = [7, 8] ∧ (put 6 200 100 3 shop).accounts.map (·.number) = [6, 7] ∧
    status (put 6 200 201 3 shop) = some .badValue ∧ status (put 6 200 100 4 shop) = some .badValue ∧
    status (put 0 200 100 3 shop) = some .badValue ∧
    status (put 6 200 100 3 { shop with accounts := List.replicate 512 acct }) = some .full ∧
    ((put 7 200 0 1 shop).account 7).map (fun a => (a.limit, a.spent, a.maxSize, a.pin)) = some (200, 100, 1, 5) ∧
    status (put 7 99 0 1 shop) = some .badValue ∧ status (put 7 100 0 1 small) = some .ok ∧
    status (put 7 200 0 1 (withAcct { acct with state := .closed } shop)) = some .closed ∧
    (let raised := put 7 200 0 1 (withAcct { acct with limit := 100, waiting := [{ station := 2, oneSheetPrice := 30 },
      { station := 3, oneSheetPrice := 30 }] } { shop with mgmt := { shop.mgmt with params := { shop.mgmt.params with drawSize := 60 } } })
    (raised.account 7).map (fun b => (b.draws, b.waiting)) = some (100, []) ∧ (raised.ctx 2).accountMail = [.grant 7 60] ∧
    (raised.ctx 3).accountMail = [.grant 7 40]) ∧
    (delete shop).accounts = [] ∧ status (delete base) = some .notFound ∧
    status (delete (withAcct { acct with openSessions := 1 } shop)) = some .inUse) ∧
    (let order := fun (v : Byte) (d : Device) => after .accountState (asks 0x04 [0, 0, 7, v] d)
    let credit := fun (n : Byte) (d : Device) => after .accountCredit (asks 0x05 [0, 0, 7, 0, 0, n] d)
    let status := fun (d : Device) => (lastReply d).map (·.1)
    let stopped := withAcct { acct with state := .stopped, pinFailures := 5 } shop
    let waits := fun (spent : Nat) => withAcct { acct with spent := spent, waiting := [{ station := 2, oneSheetPrice := 30 }] } shop
    ((order 1 shop).account 7).map (·.state) = some .stopped ∧ status (order 1 stopped) = some .ok ∧
    ((order 2 stopped).account 7).map (fun a => (a.state, a.pinFailures)) = some (.active, 0) ∧
    ((order 3 (keyed .opened none [])).ctx 0).accountMail = [.closed 7] ∧ ((order 3 (keyed .opened none [])).ctx 1).accountMail = [] ∧
    status (order 2 (order 3 shop)) = some .closed ∧ status (order 4 shop) = some .badValue ∧ status (order 1 base) = some .notFound ∧
    status (order 2 (withAcct { acct with state := .closed } shop)) = some .closed ∧
    ((credit 100 shop).account 7).map (·.spent) = some 0 ∧ status (credit 101 shop) = some .badValue ∧
    status (credit 1 base) = some .notFound ∧
    ((credit 9 (waits 480)).account 7).map (fun a => (a.draws, a.waiting.length)) = some (0, 1) ∧
    ((credit 10 (waits 480)).account 7).map (fun a => (a.draws, a.waiting.length)) = some (30, 0) ∧
    ((credit 10 (waits 480)).ctx 2).accountMail = [.grant 7 30] ∧
    let two : List WaitItem := [{ station := 2, oneSheetPrice := 100 }, { station := 3, oneSheetPrice := 150 }]
    let started := order 2 (withAcct { acct with state := .stopped, waiting := two } shop)
    let credited := credit 100 (withAcct { acct with draws := 150, waiting := two } shop)
    (started.account 7).map (fun b => (b.state, b.draws, b.waiting)) = some (.active, 400, []) ∧
    (started.ctx 3).accountMail = [.grant 7 200] ∧
    (credited.account 7).map (fun b => (b.draws, b.waiting)) = some (500, []) ∧ (credited.ctx 3).accountMail = [.grant 7 150]) := by
  refine ⟨?_, ?_, ?_, ?_⟩ <;> decide +kernel

/-- TariffLoadReplacesUnboundBank, TariffSelectNamesLoadedBank.
ConfigSetKeepsRanges: both ends of a range, an unknown code, a limit below the outstanding count.
StationWakeWakesFromDoze, StationIsClearedAndConfigured.
StationIsServicedAndReset. -/
theorem test_tariff_to_service_and_reset :
    (let load := fun (b : Byte) (d : Device) => after .tariffLoad (asks 0x08 (b :: (List.replicate 14 0 ++ [1, 2])) d)
    let select := fun (b : Byte) (d : Device) => after .tariffSelect (asks 0x09 [b] d)
    let status := fun (d : Device) => (lastReply d).map (·.1)
    let bound := { shop with tariff := { shop.tariff with bankA := { shop.tariff.bankA with refCount := 1 } } }
    (load 1 shop).tariff.bankB.loaded = true ∧ (load 1 shop).tariff.bankB.prices[(7 : Fin 8)] = 258 ∧
    (load 1 shop).tariff.bankA = shop.tariff.bankA ∧ status (load 2 shop) = some .badValue ∧ status (load 0 bound) = some .inUse ∧
    (select 1 (load 1 shop)).tariff.selector = .bankB ∧
    status (select 1 shop) = some .badValue ∧ status (select 2 shop) = some .badValue ∧ status (select 0 shop) = some .ok) ∧
    (let set := fun (code hi lo : Byte) (d : Device) => after .configSet (asks 0x0C [code, hi, lo] d)
    let status := fun (d : Device) => (lastReply d).map (·.1)
    (set 1 0 10 base).mgmt.params.drawSize = 10 ∧ status (set 1 0 9 base) = some .badValue ∧
    (set 1 0x13 0x88 base).mgmt.params.drawSize = 5000 ∧ status (set 1 0x13 0x89 base) = some .badValue ∧
    status (set 0 0 9 base) = some .badValue ∧ status (set 11 0 9 base) = some .badValue ∧ status (set 10 0 15 base) = some .ok ∧
    status (set 6 0 2 { base with outstanding := 3 }) = some .busy ∧ status (set 6 0 3 { base with outstanding := 3 }) = some .ok) ∧
    (let status := fun (d : Device) => (lastReply d).map (·.1)
    let dozing := at0 .doze base
    let faulty := after (.stationBadFrame 0) base
    let set := fun (p f m : Byte) => after .stationConfig (asks 0x11 [0, p, f, m] base)
    out (after .stationWake (asks 0x14 [0] dozing)) = [.wake] ∧
    ((after .stationWake (asks 0x14 [0] dozing)).ctx 0).dozeTimer = some 1200 ∧
    out (after .stationWake (asks 0x14 [0] base)) = [] ∧ status (after .stationWake (asks 0x14 [16] base)) = some .badValue ∧
    (faulty.ctx 0).faults.linkError = true ∧ ((after .stationClear (asks 0x15 [0] faulty)).ctx 0).faults = .clear ∧
    (set 0 1 5).configs[(0 : Station)] = { inService := true, jamPolicy := .charge, forward := .block
                                           wakeMask := { card := true, keyin := false, engineOther := true } } ∧
    status (set 2 0 0) = some .badValue ∧ status (set 0 2 0) = some .badValue ∧ status (set 0 0 8) = some .badValue) ∧
    (let service := fun (v : Byte) (d : Device) => after .stationService (asks 0x12 [0, v] d)
    let reset := fun (d : Device) => after .stationReset (asks 0x13 [0] d)
    let off := { service 0 base with mgmt := base.mgmt }
    let d := card .running (some job0) [entry 1]
    ((service 0 base).ctx 0).state = .offline .service ∧ ((service 0 (at0 .doze base)).ctx 0).state = .offline .service ∧
    ((service 0 (at0 (.offline .carrier) base)).ctx 0).state = .offline .carrier ∧
    ((service 1 off).ctx 0).state = .idle ∧ ((service 1 base).ctx 0).state = .idle ∧
    (lastReply (service 2 base)).map (·.1) = some .badValue ∧
    (let cut := port0 (fun p => { p with carrier := false }) off
    (cut.ctx 0).state = .offline .service ∧ (cut.port 0).carrier = false ∧ cut.configs[(0 : Station)].inService = false ∧
    ((service 1 cut).ctx 0).state = .offline .service ∧ (service 1 cut).configs[(0 : Station)].inService = true) ∧
    ((service 0 d).ctx 0).state = .offline .service ∧ out (service 0 d) = [.jobEnd .lost, .sessionEnd .outOfService] ∧
    ((service 0 (keyed .opened none [])).account 7).map (·.openSessions) = some 0 ∧
    (let f := { funding (asking .queued) with payQueue := [{ ref := ref0, kind := .auth }] }
    ((service 0 f).ctx 0).state = .offline .service ∧ out (service 0 f) = [.cardDeclined .outOfService] ∧
    ((service 0 f).slot 0).state = .lapsed ∧ (service 0 f).payQueue = [] ∧
    ((reset f).ctx 0).state = .idle ∧ out (reset f) = [.cardDeclined .outOfService] ∧ ((reset (funding hold0)).slot 0).state = .voiding) ∧
    out (reset (at0 .doze base)) = [.wake] ∧ ((reset off).ctx 0).state = .offline .service ∧
    d.HasRoom 0 ∧ ((reset d).ctx 0).state = .idle ∧ out (reset d) = [.jobEnd .lost, .sessionEnd .reset] ∧
    (reset d).reports.map (·.endReason) = [.reset] ∧ ((reset (noRoom d)).ctx 0).faults.uplinkDrop = true ∧
    (reset (noRoom d)).reports.length = 2) := by
  refine ⟨?_, ?_, ?_, ?_⟩ <;> decide +kernel

/-- PeriodCloseStartsTheExport: with something to bill, with nothing, and while an export runs.
NoticeEnableAndClearAreTaken.
RestartIsTaken: with replies before it, and nothing after it. -/
theorem test_period_close_to_restart :
    (let close := fun (d : Device) => after .periodClose (asks 0x1C [] d)
    let rec0 := acct.live.addSheet 2 1 10
    (close (withAcct { acct with live := rec0 } shop)).exporting =
      { period := 1, running := true, exportedPeriod := 0, cursor := 0, billsExpected := 1, billsSent := 0
        frame := some (.bill 0 7 rec0) } ∧
    (close shop).exporting.frame = some (.finish 0 0) ∧
    (lastReply (close { close shop with mgmt := base.mgmt })).map (·.1) = some .busy) ∧
    (let jam := base.notice .jam (some 3)
    let enable := fun (hi lo : Byte) (d : Device) => after .noticeEnable (asks 0x1E [hi, lo] d)
    let clear := fun (hi lo : Byte) (d : Device) => after .noticeClear (asks 0x1F [hi, lo] d)
    let live := { enable 0 0x10 jam with mgmt := base.mgmt }
    live.notices.waiting = true ∧ live.notices.master = true ∧ (enable 0 0x20 live).notices.waiting = false ∧
    (lastReply (enable 0x10 0 jam)).map (·.1) = some .badValue ∧ (enable 0x10 0 jam).notices = jam.notices ∧
    (clear 0 0x10 live).notices.pending[(4 : Fin 12)] = false ∧ (clear 0 0x10 live).notices.lastStation[(4 : Fin 12)] = none ∧
    (clear 0 0x10 live).notices.waiting = false ∧ (clear 0x0F 0xEF live).notices.waiting = true ∧
    (lastReply (clear 0x10 0 live)).map (·.1) = some .badValue) ∧
    (let d := after .restart (asks 0x7F [] (after .configGet (asks 0x0D [] base)))
    let more := asks 0x0D [] d
    d.mgmt.replies.length = 2 ∧ d.mgmt.restartTaken = true ∧ after .configGet more = more ∧
    after .restart (asks 0x7F [] { base with mgmt := { base.mgmt with replies := List.replicate 4 { tag := 0, status := .ok, data := .none } } }) =
      asks 0x7F [] { base with mgmt := { base.mgmt with replies := List.replicate 4 { tag := 0, status := .ok, data := .none } } }) := by
  refine ⟨?_, ?_, ?_⟩ <;> decide +kernel

/-! ### Frames and invariants -/

/-- InboundFramesComeBack: frames with a list, with delimiters among their bytes, and with and without a reference. -/
theorem test_frames_come_back :
    (∀ i ∈ [Instr.clear 5 (List.replicate 8 (0x7E7E, 3)), .card 15 (List.replicate 16 0x7E), .authResult 1 2 3 4 (some 5),
        .authResult 1 2 0 4 none, .mgmt 1 2 [], .textDown 200 [9]],
      comesBack i = true) := by decide +kernel

/-- EveryStepKeepsTheLaws, EveryStepKeepsOrderAndLimit: the premises hold of a part with queues at their limits. -/
theorem test_laws :
    let d := { shop with serviceUp := List.replicate 16 { station := 1, payload := [1] }, outstanding := 4 }
    d.outstanding ≤ d.mgmt.params.outstandingLimit ∧ (d.accounts.map (·.number)).Pairwise (· < ·) ∧ d.notices.Lawful ∧
    d.WaitersApart ∧ d.LinesSound ∧ d.WithinCapacity := by
  refine ⟨by decide +kernel, by decide +kernel, fun h => absurd h (by decide +kernel), ?_, fun st => ⟨?_, ?_⟩, ?_⟩
  · unfold Device.WaitersApart; decide +kernel
  · revert st; decide +kernel
  · revert st; decide +kernel
  · refine ⟨fun st => ⟨?_, ?_⟩, ?_, ?_, ?_, ?_, ?_, ?_, ?_, ?_⟩
    · revert st; decide +kernel
    · revert st; decide +kernel
    all_goals decide +kernel

end Sys2Proof.Tests
end

section
/-! PROOF. A second of the timebase (R1, R121, R184): the timers that stand at 0 run out, each as its own command has it, and then
the counts fall. -/

namespace Sys2Proof.Machine

/-! ### The timers that stand at 0 -/

theorem mem_allStations (st : Station) : st ∈ allStations := by revert st; decide

theorem mem_allSlots (i : SlotNo) : i ∈ allSlots := by revert i; decide

theorem mem_allExpiries (e : Expiry) : e ∈ allExpiries := by
  simp only [allExpiries, List.mem_append, List.mem_flatMap]
  cases e with
  | doze st | idle st | wait st | jam st => exact .inl ⟨st, mem_allStations st, by simp⟩
  | auth i | renew i | final i | lapse i | hold i => exact .inr ⟨i, mem_allSlots i, by simp⟩

/-- Every timer is listed once: those of one station or slot differ in kind, and those of two in their station or slot. -/
theorem allExpiries_nodup : allExpiries.Nodup := by
  have stations : allStations.Nodup := by decide
  have slots : allSlots.Nodup := by decide
  refine List.nodup_append'.mpr ⟨?_, ?_, ?_⟩
  · refine List.nodup_flatMap.mpr ⟨fun st _ => by simp, stations.imp fun hne => ?_⟩
    simp [Function.onFun, hne.symm]
  · refine List.nodup_flatMap.mpr ⟨fun i _ => by simp, slots.imp fun hne => ?_⟩
    simp [Function.onFun, hne.symm]
  · intro e he hf
    obtain ⟨st, -, he⟩ := List.mem_flatMap.mp he
    obtain ⟨i, -, hf⟩ := List.mem_flatMap.mp hf
    simp only [List.mem_cons, List.not_mem_nil, or_false] at he
    rcases he with rfl | rfl | rfl | rfl <;> simp at hf

theorem Slot.timedOut_iff (s : Slot) (k : RequestKind) : s.timedOut k = true ↔ s.StandsAtZero k := by
  unfold Slot.timedOut Slot.StandsAtZero
  split
  · rename_i h; simp [h]
  · rename_i h
    simp only [Bool.false_eq_true, false_iff, not_exists]
    exact fun f a e => h k f a e

theorem StationState.isJammed_iff (s : StationState) : s.isJammed = true ↔ ∃ r, s = .jammed r := by
  cases s <;> simp [StationState.isJammed]

theorem Device.overdue_iff (d : Device) (e : Expiry) : d.overdue e = true ↔ d.StandsAtZero e := by
  cases e with
  | doze st | idle st | wait st => simp [Device.overdue, Device.StandsAtZero]
  | jam st => simp [Device.overdue, Device.StandsAtZero, StationState.isJammed_iff]
  | auth i | renew i | final i => simp [Device.overdue, Device.StandsAtZero, Slot.timedOut_iff]
  | lapse i | hold i => simp [Device.overdue, Device.StandsAtZero]

/-! ### Their commands -/

theorem State.onDevice_running (d : Device) (q : List Instr) (f : Device → Device) (h : d.Works) :
    State.onDevice ⟨d, q⟩ (fun d => d.running f) = .next ⟨f d, q⟩ := by
  rw [State.onDevice_eq, Device.running_of_works d f h]; rfl

/-- The command of the end of a timer takes that end. -/
theorem exec_command (d : Device) (q : List Instr) (e : Expiry) (h : d.Works) :
    exec e.command ⟨d, q⟩ = .next ⟨d.takeEnd e, q⟩ := by
  cases e <;> exact State.onDevice_running d q _ h

/-- The ends of some timers taken one after the other are a run of their commands: none of them asserts RESET. -/
theorem Device.runs_takeEnd (l : List Expiry) (d : Device) (h : d.Works) :
    d.Runs (l.map Expiry.command) (l.foldl Device.takeEnd d) := by
  induction l generalizing d with
  | nil => rfl
  | cons e rest ih =>
    have works : (d.takeEnd e).Works := (Device.Steady.takeEnd d e).resetAsserted.trans h
    exact ⟨d.takeEnd e, exec_command d [] e h, ih _ works⟩

/-- R1, R184: the ends taken at a second are those of the timers that stand at 0, each once, in some order (log 8). -/
theorem Device.takeOverdue_runs (d : Device) (h : d.Works) :
    ∃ order : List Expiry, order.Nodup ∧ (∀ e, e ∈ order ↔ d.StandsAtZero e) ∧
      d.Runs (order.map Expiry.command) d.takeOverdue := by
  have perm := sortByKey_perm (fun e : Expiry => Config.tickKey d.freeCount e.number) (allExpiries.filter d.overdue)
  refine ⟨_, perm.nodup_iff.mpr (allExpiries_nodup.filter _), fun e => ?_, d.runs_takeEnd _ h⟩
  rw [perm.mem_iff, List.mem_filter, d.overdue_iff]
  exact and_iff_right (mem_allExpiries e)

/-! ### The slots whose renewal falls due -/

@[simp] theorem Device.slot_queueRequest (d : Device) (i : SlotNo) (kind : RequestKind) (funds : Bool) (amount : Nat) :
    (d.queueRequest i kind funds amount).slot i =
      { d.slot i with request := some { kind := kind, place := .queued, funds := funds, amount := amount } } :=
  d.slot_modSlot i _

theorem Device.slot_queueRequest_ne (d : Device) (i x : SlotNo) (kind : RequestKind) (funds : Bool) (amount : Nat)
    (h : x ≠ i) : (d.queueRequest i kind funds amount).slot x = d.slot x :=
  d.slot_modSlot_ne i x _ h

@[simp] theorem Device.payQueue_queueRequest (d : Device) (i : SlotNo) (kind : RequestKind) (funds : Bool) (amount : Nat) :
    (d.queueRequest i kind funds amount).payQueue = d.payQueue ++ [{ ref := d.slotRef i, kind := kind }] := by
  simp [Device.queueRequest, Device.slotRef]

/-- R121: a slot that has asked for its lifetime renewal. -/
def Slot.renewalAsked (s : Slot) : Slot :=
  { s with state := .renewing, request := some { kind := .renew, place := .queued, funds := false, amount := 0 } }

/-- R121: `t` is the part `d` after the slots of `l` have asked for their lifetime renewals, one after the other. -/
structure Device.RenewalsAsked (d t : Device) (l : List SlotNo) : Prop where
  slot : ∀ i, t.slot i = if i ∈ l then (d.slot i).renewalAsked else d.slot i
  payQueue : t.payQueue = d.payQueue ++ l.map fun i => { ref := d.slotRef i, kind := .renew }
  rest : t = { d with slots := t.slots, payQueue := t.payQueue }

namespace Device.RenewalsAsked

variable {d x t : Device} {i : SlotNo} {l : List SlotNo}

theorem nil (d : Device) : d.RenewalsAsked d [] := ⟨fun _ => by simp, by simp, rfl⟩

theorem slotRef (h : d.RenewalsAsked t l) (i : SlotNo) : t.slotRef i = d.slotRef i := by
  simp only [Device.slotRef, h.slot i]; split <;> rfl

theorem mgmt (h : d.RenewalsAsked t l) : t.mgmt = d.mgmt := by rw [h.rest]

/-- One slot asks, and then others. -/
theorem cons (h : d.RenewalsAsked x [i]) (k : x.RenewalsAsked t l) (notMem : i ∉ l) : d.RenewalsAsked t (i :: l) := by
  refine ⟨fun j => ?_, ?_, ?_⟩
  · rw [k.slot j, h.slot j]
    by_cases e : j = i
    · subst e; simp [notMem]
    · simp [e]
  · rw [k.payQueue, h.payQueue, funext h.slotRef]; simp
  · exact k.rest.trans (congrArg (fun y : Device => { y with slots := t.slots, payQueue := t.payQueue }) h.rest)

/-- R121: the lifetime renewal test of a slot that is due. -/
theorem lifetimeTest (due : (d.slot i).renewalDue d.mgmt.params.renewalMargin = true) :
    d.RenewalsAsked (d.lifetimeTest i) [i] := by
  unfold Device.lifetimeTest
  rw [if_pos due]
  refine ⟨fun j => ?_, ?_, rfl⟩
  · by_cases e : j = i
    · subst e
      rw [Device.slot_modSlot, Device.slot_queueRequest, if_pos (List.mem_singleton_self _)]; rfl
    · rw [Device.slot_modSlot_ne _ i j _ e, Device.slot_queueRequest_ne d i j _ _ _ e, if_neg (mt List.mem_singleton.mp e)]
  · exact d.payQueue_queueRequest i .renew false 0

/-- R121: the test of several slots that are due: none of them makes another due, or not due. -/
theorem foldl (l : List SlotNo) (d : Device) (nodup : l.Nodup)
    (due : ∀ i ∈ l, (d.slot i).renewalDue d.mgmt.params.renewalMargin = true) :
    d.RenewalsAsked (l.foldl Device.lifetimeTest d) l := by
  induction l generalizing d with
  | nil => exact nil d
  | cons i rest ih =>
    obtain ⟨notMem, nodup⟩ := List.nodup_cons.mp nodup
    have first : d.RenewalsAsked (d.lifetimeTest i) [i] := lifetimeTest (due i List.mem_cons_self)
    refine first.cons (ih _ nodup fun j hj => ?_) notMem
    have ne : j ∉ [i] := fun e => notMem (List.mem_singleton.mp e ▸ hj)
    rw [first.slot j, if_neg ne, first.mgmt]
    exact due j (List.mem_cons_of_mem i hj)

end Device.RenewalsAsked

/-! ### The counts fall -/

/-- The part with every count lowered by a second, and no renewal asked yet. -/
def Device.counted (d : Device) : Device :=
  { d with contexts := d.contexts.map Context.tick, slots := d.slots.map Slot.tick, freeCount := d.freeCount + 1 }

theorem Device.ctx_counted (d : Device) (st : Station) : d.counted.ctx st = (d.ctx st).tick := by
  simp [Device.counted, Device.ctx]

theorem Device.slot_counted (d : Device) (i : SlotNo) : d.counted.slot i = (d.slot i).tick := by
  simp [Device.counted, Device.slot]

theorem Device.mem_dueAtTick (d : Device) (i : SlotNo) : i ∈ d.dueAtTick ↔ d.FallsDue i := by
  simp only [Device.dueAtTick, List.mem_filter, mem_allSlots, true_and, Slot.lifetimeFalls, Slot.renewalDue, Slot.tick,
    Device.FallsDue, Bool.and_eq_true, Bool.or_eq_true, beq_iff_eq, decide_eq_true_eq, Bool.not_eq_true',
    Option.map_eq_none_iff]
  constructor
  · rintro ⟨⟨_, pos⟩, ⟨⟨active, refused⟩, request⟩, margin⟩
    rw [if_pos ⟨.inl active, pos⟩] at margin
    exact ⟨active, refused, request, pos, margin⟩
  · rintro ⟨active, refused, request, pos, margin⟩
    exact ⟨⟨.inl active, pos⟩, ⟨⟨active, refused⟩, request⟩, by rwa [if_pos ⟨.inl active, pos⟩]⟩

/-- R1, R121: a second is the fall of the counts, and then the renewals that fall due, in some order (log 8). -/
theorem Device.tick_renewalsAsked (d : Device) :
    ∃ joined : List SlotNo, joined.Nodup ∧ (∀ i, i ∈ joined ↔ d.FallsDue i) ∧ d.counted.RenewalsAsked d.tick joined := by
  have perm := sortByKey_perm (fun i : SlotNo => Config.tickKey d.freeCount i.val) d.dueAtTick
  have slots : allSlots.Nodup := by decide
  have nodup := perm.nodup_iff.mpr (slots.filter _)
  refine ⟨_, nodup, fun i => perm.mem_iff.trans (d.mem_dueAtTick i), .foldl _ d.counted nodup fun i hi => ?_⟩
  have due := (List.mem_filter.mp (perm.mem_iff.mp hi)).2
  rw [d.slot_counted]
  exact (Bool.and_eq_true_iff.mp due).2

/-- R111, R118, R121: the counts of a slot after a second. -/
theorem Slot.tick_eq (s : Slot) : s.tick = { s with
    lifetime := if s.state = .active ∨ s.state = .renewing then s.lifetime - 1 else s.lifetime
    request := s.request.map fun r => { r with place := match r.place with
      | .queued => .queued
      | .outstanding n => .outstanding (n - 1) }
    lapseTimer := s.lapseTimer.map (· - 1) } := by
  have lifetime : (if s.lifetimeFalls then s.lifetime - 1 else s.lifetime) =
      if s.state = .active ∨ s.state = .renewing then s.lifetime - 1 else s.lifetime := by
    by_cases h : s.state = .active ∨ s.state = .renewing
    · by_cases pos : 0 < s.lifetime
      · simp [Slot.lifetimeFalls, h, pos]
      · simp [Slot.lifetimeFalls, h, pos]; omega
    · simp [Slot.lifetimeFalls, h]
  have request : Request.tick = fun r => { r with place := match r.place with
      | .queued => .queued
      | .outstanding n => .outstanding (n - 1) } := by
    funext ⟨kind, place, funds, amount⟩
    cases place <;> rfl
  unfold Slot.tick
  rw [lifetime, request]
  rfl

/-- R1, R121: a second lowers the counts. -/
theorem Device.tick_secondPassed (d : Device) : d.SecondPassed d.tick := by
  obtain ⟨joined, nodup, mem, asked⟩ := d.tick_renewalsAsked
  have rest := asked.rest
  refine ⟨fun st => ?_, fun i h => ?_, fun i h => ?_, ⟨joined, nodup, mem, ?_⟩, ?_⟩
  · exact (congrArg (Device.ctx · st) rest).trans (d.ctx_counted st)
  · rw [asked.slot i, if_neg (mt (mem i).mp h), d.slot_counted]
    exact (d.slot i).tick_eq
  · rw [asked.slot i, if_pos ((mem i).mpr h), d.slot_counted, Slot.tick_eq]
    simp [Slot.renewalAsked, h.1]
  · rw [asked.payQueue]
    simp only [Device.slotRef, d.slot_counted]; rfl
  · rw [rest]
    exact ⟨rfl, rfl, rfl, rfl, rfl, rfl, rfl, rfl, rfl, rfl, rfl, rfl, rfl, rfl, rfl, rfl⟩

/-- Settles O12: the ends of the timers that stand at 0 are taken as their commands take them, and then the counts fall. -/
theorem tickLowersTimersAndLifetimes : Obligations.TickLowersTimersAndLifetimes := by
  intro d q h
  obtain ⟨order, nodup, mem, runs⟩ := d.takeOverdue_runs h
  exact ⟨order, d.takeOverdue, d.takeOverdue.tick, nodup, mem, runs, State.onDevice_running d q _ h,
    d.takeOverdue.tick_secondPassed⟩

end Sys2Proof.Machine
end

section
/-! PROOF. The rules of the operations that every station frame and report goes through: a frame toward a station (R150, R153,
R154), the presentation of a good frame (R11, R18, R157) and the taking of a management request (R173). -/

namespace Sys2Proof.Machine

/-! ### Frames toward a station -/

/-- R150, R153, R154: a port toward which a frame has been produced. -/
def Port.queued (p : Port) (f : StationFrame) : Port :=
  if p.carrier = false then p
  else if Config.ownQueueCapacity ≤ p.ownQueue.length then p
  else { p with ownQueue := p.ownQueue ++ [f] }

@[simp] theorem Port.queued_carrier (p : Port) (f : StationFrame) : (p.queued f).carrier = p.carrier := by
  unfold Port.queued
  split_ifs <;> rfl

/-- R150, R154: a frame toward a station touches no more than the station's port and the notice unit. -/
theorem Device.send_rest (d : Device) (st : Station) (f : StationFrame) :
    d.send st f = { d with ports := (d.send st f).ports, notices := (d.send st f).notices } := by
  unfold Device.send
  split_ifs <;> rfl

@[simp] theorem Device.port_send (d : Device) (st : Station) (f : StationFrame) :
    (d.send st f).port st = (d.port st).queued f := by
  unfold Device.send Port.queued
  split_ifs
  · rfl
  · rfl
  · exact d.port_modPort st _

theorem Device.port_send_ne (d : Device) (st x : Station) (f : StationFrame) (h : x ≠ st) :
    (d.send st f).port x = d.port x := by
  unfold Device.send
  split_ifs
  · rfl
  · rfl
  · exact d.port_modPort_ne st x _ h

@[simp] theorem Device.send_carrierDetect (d : Device) (st : Station) (f : StationFrame) : (d.send st f).carrierDetect = d.carrierDetect := (congrArg Device.carrierDetect (d.send_rest st f) :)
@[simp] theorem Device.send_uplinkDetect (d : Device) (st : Station) (f : StationFrame) : (d.send st f).uplinkDetect = d.uplinkDetect := (congrArg Device.uplinkDetect (d.send_rest st f) :)
@[simp] theorem Device.send_resetAsserted (d : Device) (st : Station) (f : StationFrame) : (d.send st f).resetAsserted = d.resetAsserted := (congrArg Device.resetAsserted (d.send_rest st f) :)
@[simp] theorem Device.send_contexts (d : Device) (st : Station) (f : StationFrame) : (d.send st f).contexts = d.contexts := (congrArg Device.contexts (d.send_rest st f) :)
@[simp] theorem Device.send_ctx (d : Device) (st : Station) (f : StationFrame) (x : Station) : (d.send st f).ctx x = d.ctx x := (congrArg (Device.ctx · x) (d.send_rest st f) :)
@[simp] theorem Device.send_paths (d : Device) (st : Station) (f : StationFrame) : (d.send st f).paths = d.paths := (congrArg Device.paths (d.send_rest st f) :)
@[simp] theorem Device.send_path (d : Device) (st : Station) (f : StationFrame) (x : Station) : (d.send st f).path x = d.path x := (congrArg (Device.path · x) (d.send_rest st f) :)
@[simp] theorem Device.send_configs (d : Device) (st : Station) (f : StationFrame) : (d.send st f).configs = d.configs := (congrArg Device.configs (d.send_rest st f) :)
@[simp] theorem Device.send_serviceUp (d : Device) (st : Station) (f : StationFrame) : (d.send st f).serviceUp = d.serviceUp := (congrArg Device.serviceUp (d.send_rest st f) :)
@[simp] theorem Device.send_tariff (d : Device) (st : Station) (f : StationFrame) : (d.send st f).tariff = d.tariff := (congrArg Device.tariff (d.send_rest st f) :)
@[simp] theorem Device.send_accounts (d : Device) (st : Station) (f : StationFrame) : (d.send st f).accounts = d.accounts := (congrArg Device.accounts (d.send_rest st f) :)
@[simp] theorem Device.send_account (d : Device) (st : Station) (f : StationFrame) (x : Nat) : (d.send st f).account x = d.account x := (congrArg (Device.account · x) (d.send_rest st f) :)
@[simp] theorem Device.send_exporting (d : Device) (st : Station) (f : StationFrame) : (d.send st f).exporting = d.exporting := (congrArg Device.exporting (d.send_rest st f) :)
@[simp] theorem Device.send_slots (d : Device) (st : Station) (f : StationFrame) : (d.send st f).slots = d.slots := (congrArg Device.slots (d.send_rest st f) :)
@[simp] theorem Device.send_slot (d : Device) (st : Station) (f : StationFrame) (x : SlotNo) : (d.send st f).slot x = d.slot x := (congrArg (Device.slot · x) (d.send_rest st f) :)
@[simp] theorem Device.send_payQueue (d : Device) (st : Station) (f : StationFrame) : (d.send st f).payQueue = d.payQueue := (congrArg Device.payQueue (d.send_rest st f) :)
@[simp] theorem Device.send_outstanding (d : Device) (st : Station) (f : StationFrame) : (d.send st f).outstanding = d.outstanding := (congrArg Device.outstanding (d.send_rest st f) :)
@[simp] theorem Device.send_staleVoids (d : Device) (st : Station) (f : StationFrame) : (d.send st f).staleVoids = d.staleVoids := (congrArg Device.staleVoids (d.send_rest st f) :)
@[simp] theorem Device.send_payReports (d : Device) (st : Station) (f : StationFrame) : (d.send st f).payReports = d.payReports := (congrArg Device.payReports (d.send_rest st f) :)
@[simp] theorem Device.send_reports (d : Device) (st : Station) (f : StationFrame) : (d.send st f).reports = d.reports := (congrArg Device.reports (d.send_rest st f) :)
@[simp] theorem Device.send_mgmt (d : Device) (st : Station) (f : StationFrame) : (d.send st f).mgmt = d.mgmt := (congrArg Device.mgmt (d.send_rest st f) :)
@[simp] theorem Device.send_uplink (d : Device) (st : Station) (f : StationFrame) : (d.send st f).uplink = d.uplink := (congrArg Device.uplink (d.send_rest st f) :)
@[simp] theorem Device.send_freeCount (d : Device) (st : Station) (f : StationFrame) : (d.send st f).freeCount = d.freeCount := (congrArg Device.freeCount (d.send_rest st f) :)

/-- A frame toward a station leaves the contexts alone, and a change of a context leaves the frame's way alone. -/
theorem Device.send_modCtx (d : Device) (st x : Station) (f : StationFrame) (g : Context → Context) :
    (d.modCtx x g).send st f = (d.send st f).modCtx x g := by
  by_cases carrier : (d.port st).carrier = false
  · simp [Device.send, carrier]
  · by_cases full : Config.ownQueueCapacity ≤ (d.port st).ownQueue.length
    · simp only [Device.send, Device.modCtx_port, carrier, full, if_true]; rfl
    · simp only [Device.send, Device.modCtx_port, carrier, full, if_false]; rfl

/-! ### The presentation of a good frame -/

/-- R11, R18: the timer that a good frame restarts. -/
def Context.presented (p : Params) (c : Context) : Context :=
  match c.state with
  | .idle => { c with dozeTimer := p.dozeStart }
  | .opened => { c with idleTimer := some p.idleTime }
  | _ => c

theorem Device.awake_eq (d : Device) (st : Station) :
    d.awake st = (d.heard st).modCtx st (Context.presented d.mgmt.params) := by
  unfold Device.awake
  split <;> rename_i h
  · exact Device.modCtx_congr _ _ _ _ (by simp [Context.presented, h])
  · exact Device.modCtx_congr _ _ _ _ (by simp [Context.presented, h])
  · refine (Device.modCtx_eq_self _ _ _ ?_).symm
    unfold Context.presented
    split <;> simp_all

/-- R11, R18: a frame restarts no timer outside IDLE and OPEN. -/
theorem Device.awake_eq_heard (d : Device) (st : Station) (idle : (d.ctx st).state ≠ .idle)
    (opened : (d.ctx st).state ≠ .opened) : d.awake st = d.heard st := by
  unfold Device.awake
  split <;> simp_all

theorem Device.ctx_awake (d : Device) (st : Station) :
    (d.awake st).ctx st = (d.ctx st).presented d.mgmt.params := by
  simp [d.awake_eq st]

theorem Device.ctx_awake_ne (d : Device) (st x : Station) (h : x ≠ st) : (d.awake st).ctx x = d.ctx x := by
  simp [d.awake_eq st, Device.ctx_modCtx_ne _ _ _ _ h]

@[simp] theorem Device.port_awake (d : Device) (st : Station) : (d.awake st).port st = (d.port st).endReception := by
  simp [d.awake_eq st]

theorem Device.port_heard_ne (d : Device) (st x : Station) (h : x ≠ st) : (d.heard st).port x = d.port x :=
  d.port_modPort_ne st x _ h

theorem Device.port_awake_ne (d : Device) (st x : Station) (h : x ≠ st) : (d.awake st).port x = d.port x := by
  simp [d.awake_eq st, d.port_heard_ne st x h]

@[simp] theorem Device.awake_carrierDetect (d : Device) (st : Station) : (d.awake st).carrierDetect = d.carrierDetect := (congrArg Device.carrierDetect (d.awake_eq st) :)
@[simp] theorem Device.awake_uplinkDetect (d : Device) (st : Station) : (d.awake st).uplinkDetect = d.uplinkDetect := (congrArg Device.uplinkDetect (d.awake_eq st) :)
@[simp] theorem Device.awake_resetAsserted (d : Device) (st : Station) : (d.awake st).resetAsserted = d.resetAsserted := (congrArg Device.resetAsserted (d.awake_eq st) :)
@[simp] theorem Device.awake_paths (d : Device) (st : Station) : (d.awake st).paths = d.paths := (congrArg Device.paths (d.awake_eq st) :)
@[simp] theorem Device.awake_path (d : Device) (st : Station) (x : Station) : (d.awake st).path x = d.path x := (congrArg (Device.path · x) (d.awake_eq st) :)
@[simp] theorem Device.awake_configs (d : Device) (st : Station) : (d.awake st).configs = d.configs := (congrArg Device.configs (d.awake_eq st) :)
@[simp] theorem Device.awake_serviceUp (d : Device) (st : Station) : (d.awake st).serviceUp = d.serviceUp := (congrArg Device.serviceUp (d.awake_eq st) :)
@[simp] theorem Device.awake_tariff (d : Device) (st : Station) : (d.awake st).tariff = d.tariff := (congrArg Device.tariff (d.awake_eq st) :)
@[simp] theorem Device.awake_accounts (d : Device) (st : Station) : (d.awake st).accounts = d.accounts := (congrArg Device.accounts (d.awake_eq st) :)
@[simp] theorem Device.awake_account (d : Device) (st : Station) (x : Nat) : (d.awake st).account x = d.account x := (congrArg (Device.account · x) (d.awake_eq st) :)
@[simp] theorem Device.awake_exporting (d : Device) (st : Station) : (d.awake st).exporting = d.exporting := (congrArg Device.exporting (d.awake_eq st) :)
@[simp] theorem Device.awake_slots (d : Device) (st : Station) : (d.awake st).slots = d.slots := (congrArg Device.slots (d.awake_eq st) :)
@[simp] theorem Device.awake_slot (d : Device) (st : Station) (x : SlotNo) : (d.awake st).slot x = d.slot x := (congrArg (Device.slot · x) (d.awake_eq st) :)
@[simp] theorem Device.awake_payQueue (d : Device) (st : Station) : (d.awake st).payQueue = d.payQueue := (congrArg Device.payQueue (d.awake_eq st) :)
@[simp] theorem Device.awake_outstanding (d : Device) (st : Station) : (d.awake st).outstanding = d.outstanding := (congrArg Device.outstanding (d.awake_eq st) :)
@[simp] theorem Device.awake_staleVoids (d : Device) (st : Station) : (d.awake st).staleVoids = d.staleVoids := (congrArg Device.staleVoids (d.awake_eq st) :)
@[simp] theorem Device.awake_payReports (d : Device) (st : Station) : (d.awake st).payReports = d.payReports := (congrArg Device.payReports (d.awake_eq st) :)
@[simp] theorem Device.awake_reports (d : Device) (st : Station) : (d.awake st).reports = d.reports := (congrArg Device.reports (d.awake_eq st) :)
@[simp] theorem Device.awake_notices (d : Device) (st : Station) : (d.awake st).notices = d.notices := (congrArg Device.notices (d.awake_eq st) :)
@[simp] theorem Device.awake_mgmt (d : Device) (st : Station) : (d.awake st).mgmt = d.mgmt := (congrArg Device.mgmt (d.awake_eq st) :)
@[simp] theorem Device.awake_uplink (d : Device) (st : Station) : (d.awake st).uplink = d.uplink := (congrArg Device.uplink (d.awake_eq st) :)
@[simp] theorem Device.awake_freeCount (d : Device) (st : Station) : (d.awake st).freeCount = d.freeCount := (congrArg Device.freeCount (d.awake_eq st) :)

@[simp] theorem Context.presented_state (c : Context) (p : Params) : (c.presented p).state = c.state := by unfold Context.presented; split <;> rfl
@[simp] theorem Context.presented_session (c : Context) (p : Params) : (c.presented p).session = c.session := by unfold Context.presented; split <;> rfl
@[simp] theorem Context.presented_endPending (c : Context) (p : Params) : (c.presented p).endPending = c.endPending := by unfold Context.presented; split <;> rfl
@[simp] theorem Context.presented_job (c : Context) (p : Params) : (c.presented p).job = c.job := by unfold Context.presented; split <;> rfl
@[simp] theorem Context.presented_waitTimer (c : Context) (p : Params) : (c.presented p).waitTimer = c.waitTimer := by unfold Context.presented; split <;> rfl
@[simp] theorem Context.presented_jamTimer (c : Context) (p : Params) : (c.presented p).jamTimer = c.jamTimer := by unfold Context.presented; split <;> rfl
@[simp] theorem Context.presented_faults (c : Context) (p : Params) : (c.presented p).faults = c.faults := by unfold Context.presented; split <;> rfl
@[simp] theorem Context.presented_meters (c : Context) (p : Params) : (c.presented p).meters = c.meters := by unfold Context.presented; split <;> rfl
@[simp] theorem Context.presented_refillAsked (c : Context) (p : Params) : (c.presented p).refillAsked = c.refillAsked := by unfold Context.presented; split <;> rfl
@[simp] theorem Context.presented_accountMail (c : Context) (p : Params) : (c.presented p).accountMail = c.accountMail := by unfold Context.presented; split <;> rfl
@[simp] theorem Context.presented_roomTold (c : Context) (p : Params) : (c.presented p).roomTold = c.roomTold := by unfold Context.presented; split <;> rfl

/-! ### The taking of a station frame -/

theorem State.onDevice_stationFrame (d : Device) (q : List Instr) (st : Station) (w : Option WakeClass) (f : Device → Device)
    (h : d.Hears st) (hd : (d.ctx st).state ≠ .doze) :
    State.onDevice ⟨d, q⟩ (fun d => d.stationFrame st w f) = .next ⟨(f (d.awake st)).transmit st, q⟩ := by
  rw [State.onDevice_eq]
  exact congrArg (fun t : Device => Host.Outcome.next (⟨t, q⟩ : State)) (d.stationFrame_of_hears st w f h hd)

section
variable {d : Device} {st : Station} (q : List Instr)

theorem exec_start (h : d.Hears st) (hd : (d.ctx st).state ≠ .doze) (n k : Half) (sides size colour last : Byte) :
    exec (.start st n k sides size colour last) ⟨d, q⟩ =
      .next ⟨((d.awake st).takeStart st (readOrder n k sides size colour last)).transmit st, q⟩ :=
  State.onDevice_stationFrame d q st _ _ h hd

theorem exec_feed (h : d.Hears st) (hd : (d.ctx st).state ≠ .doze) (o : Half) (size colour : Byte) :
    exec (.feed st o size colour) ⟨d, q⟩ = .next ⟨((d.awake st).takeFeed st o size colour).transmit st, q⟩ :=
  State.onDevice_stationFrame d q st _ _ h hd

theorem exec_exit (h : d.Hears st) (hd : (d.ctx st).state ≠ .doze) (o : Half) :
    exec (.exit st o) ⟨d, q⟩ = .next ⟨((d.awake st).takeExit st o).transmit st, q⟩ :=
  State.onDevice_stationFrame d q st _ _ h hd

/-- R56: a JAM of up to 8 ordinals has a good length. -/
theorem exec_jam (h : d.Hears st) (hd : (d.ctx st).state ≠ .doze) (l : List Half) (hl : l.length ≤ 8) :
    exec (.jam st l) ⟨d, q⟩ = .next ⟨((d.awake st).takeJam st l).transmit st, q⟩ := by
  have fits : exec (.jam st l) ⟨d, q⟩ =
      State.onDevice ⟨d, q⟩ fun d => d.stationFrame st (some .engineOther) fun d => d.takeJam st l := by
    simp [exec, execJam, Config.listLimit, Nat.not_lt.mpr hl]
  exact fits.trans (State.onDevice_stationFrame d q st _ _ h hd)

/-- R65: a CLEAR of up to 8 items has a good length. -/
theorem exec_clear (h : d.Hears st) (hd : (d.ctx st).state ≠ .doze) (l : List (Half × Byte)) (hl : l.length ≤ 8) :
    exec (.clear st l) ⟨d, q⟩ = .next ⟨((d.awake st).takeClear st l).transmit st, q⟩ := by
  have fits : exec (.clear st l) ⟨d, q⟩ =
      State.onDevice ⟨d, q⟩ fun d => d.stationFrame st (some .engineOther) fun d => d.takeClear st l := by
    simp [exec, execClear, Config.listLimit, Nat.not_lt.mpr hl]
  exact fits.trans (State.onDevice_stationFrame d q st _ _ h hd)

theorem exec_stop (h : d.Hears st) (hd : (d.ctx st).state ≠ .doze) :
    exec (.stop st) ⟨d, q⟩ = .next ⟨((d.awake st).takeStop st).transmit st, q⟩ :=
  State.onDevice_stationFrame d q st _ _ h hd

theorem exec_keyin (h : d.Hears st) (hd : (d.ctx st).state ≠ .doze) (n : Amount24) (pin : Half) :
    exec (.keyin st n pin) ⟨d, q⟩ = .next ⟨((d.awake st).takeKeyin st n.toNat pin).transmit st, q⟩ :=
  State.onDevice_stationFrame d q st _ _ h hd

theorem exec_logout (h : d.Hears st) (hd : (d.ctx st).state ≠ .doze) :
    exec (.logout st) ⟨d, q⟩ = .next ⟨((d.awake st).takeLogout st).transmit st, q⟩ :=
  State.onDevice_stationFrame d q st _ _ h hd

/-- R152, R159: a SERVICE payload of 1 to 48 bytes has a good length. -/
theorem exec_service (h : d.Hears st) (hd : (d.ctx st).state ≠ .doze) (l : List Byte) (hl : textFits l = true) :
    exec (.service st l) ⟨d, q⟩ = .next ⟨((d.awake st).takeService st l).transmit st, q⟩ := by
  have fits : exec (.service st l) ⟨d, q⟩ =
      State.onDevice ⟨d, q⟩ fun d => d.stationFrame st (some .engineOther) fun d => d.takeService st l := by
    simp [exec, execService, hl]
  exact fits.trans (State.onDevice_stationFrame d q st _ _ h hd)

/-- R204: a token of 16 bytes has a good length. -/
theorem exec_card (h : d.Hears st) (hd : (d.ctx st).state ≠ .doze) (token : List Byte) (hl : token.length = 16) :
    exec (.card st token) ⟨d, q⟩ = .next ⟨((d.awake st).takeCard st token).transmit st, q⟩ := by
  have fits : exec (.card st token) ⟨d, q⟩ =
      State.onDevice ⟨d, q⟩ fun d => d.stationFrame st (some .card) fun d => d.takeCard st token := by
    simp [exec, execCard, Config.tokenLength, hl]
  exact fits.trans (State.onDevice_stationFrame d q st _ _ h hd)

theorem exec_cardOut (h : d.Hears st) (hd : (d.ctx st).state ≠ .doze) :
    exec (.cardOut st) ⟨d, q⟩ = .next ⟨((d.awake st).takeCardOut st).transmit st, q⟩ :=
  State.onDevice_stationFrame d q st _ _ h hd

end

/-! ### The taking of a management request -/

/-- R173, R178: a request that passes the three checks is answered by its owner. -/
theorem Device.takeRequest_of_takes (d : Device) (r : MgmtRequest) (rest : List MgmtRequest) (accepts : Byte → Bool)
    (owner : Device → MgmtRequest → Answer) (h : d.Takes r rest) (kind : accepts r.kind = true) (good : requestFault r = none) :
    d.takeRequest accepts owner =
      (owner (d.taken rest) r).device.reply r.tag (owner (d.taken rest) r).status (owner (d.taken rest) r).data := by
  have may : d.mgmt.mayTake = true := by simp [Management.mayTake, h.inHand, h.room, h.open_]
  simp [Device.takeRequest, h.input, may, kind, Device.answerRequest, good, Device.taken]

/-- R178: a request at fault is refused with nothing else changed. -/
theorem Device.takeRequest_of_fault (d : Device) (r : MgmtRequest) (rest : List MgmtRequest) (accepts : Byte → Bool)
    (owner : Device → MgmtRequest → Answer) (status : Status) (h : d.Takes r rest) (kind : accepts r.kind = true)
    (bad : requestFault r = some status) :
    d.takeRequest accepts owner = (d.taken rest).reply r.tag status .none := by
  have may : d.mgmt.mayTake = true := by simp [Management.mayTake, h.inHand, h.room, h.open_]
  simp [Device.takeRequest, h.input, may, kind, Device.answerRequest, bad, Device.taken]

end Sys2Proof.Machine
end

section
/-! PROOF. Frames that are bad, not routed or out of place, the requests that wake, clear and configure a station, and the state
after reset (O10, O14, O18, O20, O25, O51, O52, O60). -/

namespace Sys2Proof.Machine

/-! ### Bad and unrouted frames -/

theorem State.onDevice_receiveStation (d : Device) (q : List Instr) (st : Station) (f : Device → Device) (h : d.Hears st) :
    State.onDevice ⟨d, q⟩ (fun d => d.receiveStation st f) = .next ⟨(f (d.heard st)).transmit st, q⟩ := by
  rw [State.onDevice_eq]
  exact congrArg (fun t : Device => Host.Outcome.next (⟨t, q⟩ : State)) (d.receiveStation_of_hears st f h)

theorem State.onDevice_receiveUplink (d : Device) (q : List Instr) (f : Device → Device) (h : d.HearsUplink) :
    State.onDevice ⟨d, q⟩ (fun d => d.receiveUplink f) = .next ⟨f d.heardUplink, q⟩ := by
  rw [State.onDevice_eq]
  exact congrArg (fun t : Device => Host.Outcome.next (⟨t, q⟩ : State)) (d.receiveUplink_of_hears f h)

/-- R158: a frame whose pair is not routed goes to the presentation with the wake class of its endpoint. -/
theorem exec_stationUnroutedFrame (d : Device) (q : List Instr) (st : Station) (endpoint kind : Byte)
    (unrouted : routedPair endpoint kind = false) :
    exec (.stationUnroutedFrame st endpoint kind) ⟨d, q⟩ =
      State.onDevice ⟨d, q⟩ fun d => d.stationFrame st (unroutedWake endpoint) fun d => d.protocolFault st := by
  simp [exec, execStationUnroutedFrame, unrouted]

/-- Settles O10: each of the four frames goes through the receiver of its line to one fault. -/
theorem faultyFramesAreReported : Obligations.FaultyFramesAreReported := by
  refine ⟨⟨fun d q st h => ?_, fun d q h => ?_⟩, fun d q st endpoint kind h awake unrouted => ?_, fun d q kind h unrouted => ?_⟩
  · exact State.onDevice_receiveStation d q st _ h
  · exact State.onDevice_receiveUplink d q _ h
  · rw [exec_stationUnroutedFrame d q st endpoint kind unrouted]
    exact State.onDevice_stationFrame d q st _ _ h awake
  · have routed : exec (.uplinkUnroutedFrame kind) ⟨d, q⟩ =
        State.onDevice ⟨d, q⟩ fun d => d.receiveUplink fun d => d.notice .protocol none := by
      simp [exec, execUplinkUnroutedFrame, unrouted]
    rw [routed]
    exact State.onDevice_receiveUplink d q _ h

/-! ### LOGOUT and CARD_OUT -/

theorem Device.takeLogout_of_job (d : Device) (st : Station)
    (h : (d.ctx st).state = .running ∨ (d.ctx st).state = .held ∨ ∃ r, (d.ctx st).state = .jammed r) :
    d.takeLogout st = d.setEndPending st .logout := by
  unfold Device.takeLogout
  obtain h | h | ⟨r, h⟩ := h <;> rw [h]

theorem Device.takeCardOut_of_job (d : Device) (st : Station)
    (h : (d.ctx st).state = .running ∨ (d.ctx st).state = .held ∨ ∃ r, (d.ctx st).state = .jammed r) :
    d.takeCardOut st = if (d.ctx st).cardSession then d.setEndPending st .cardOut else d := by
  unfold Device.takeCardOut
  obtain h | h | ⟨r, h⟩ := h <;> rw [h]

theorem Context.cardSession_presented (c : Context) (p : Params) : (c.presented p).cardSession = c.cardSession := by
  simp [Context.cardSession]

@[simp] theorem Device.cardSession_awake (d : Device) (st : Station) :
    ((d.awake st).ctx st).cardSession = (d.ctx st).cardSession := by
  rw [Device.ctx_awake, Context.cardSession_presented]

@[simp] theorem Device.state_awake (d : Device) (st : Station) : ((d.awake st).ctx st).state = (d.ctx st).state := by
  rw [Device.ctx_awake, Context.presented_state]

@[simp] theorem Device.session_awake (d : Device) (st : Station) : ((d.awake st).ctx st).session = (d.ctx st).session := by
  rw [Device.ctx_awake, Context.presented_session]

@[simp] theorem Device.job_awake (d : Device) (st : Station) : ((d.awake st).ctx st).job = (d.ctx st).job := by
  rw [Device.ctx_awake, Context.presented_job]

@[simp] theorem Device.endPending_awake (d : Device) (st : Station) :
    ((d.awake st).ctx st).endPending = (d.ctx st).endPending := by
  rw [Device.ctx_awake, Context.presented_endPending]

/-- Settles O14, by the state of the station: with a job LOGOUT and CARD_OUT mark end pending, elsewhere they are ignored. -/
theorem endPendingIsMarked : Obligations.EndPendingIsMarked := by
  intro d q st h
  refine ⟨fun state => ?_, fun state => ?_, fun ref state => ?_, fun state account => ?_⟩
  · have job : (d.ctx st).state = .running ∨ (d.ctx st).state = .held ∨ ∃ r, (d.ctx st).state = .jammed r := by
      simp only [List.mem_cons, List.not_mem_nil, or_false] at state
      rcases state with s | s | s | s | s <;> simp [s]
    have awake : d.awake st = d.heard st :=
      d.awake_eq_heard st (by rintro e; simp [e] at job) (by rintro e; simp [e] at job)
    have hd : (d.ctx st).state ≠ .doze := by rintro e; simp [e] at job
    rw [exec_logout q h hd, exec_cardOut q h hd, awake, (d.heard st).takeLogout_of_job st job,
      (d.heard st).takeCardOut_of_job st job]
    exact ⟨rfl, fun card => by rw [Device.heard_ctx, if_pos card]; rfl, fun account => by simp [account]⟩
  · simp only [List.mem_cons, List.not_mem_nil, or_false] at state
    have hd : (d.ctx st).state ≠ .doze := by rcases state with s | s | s <;> simp [s]
    rw [exec_logout q h hd, exec_cardOut q h hd]
    rcases state with s | s | s <;> simp [Device.takeLogout, Device.takeCardOut, s]
  · rw [exec_logout q h (by simp [state]), d.awake_eq_heard st (by simp [state]) (by simp [state])]
    simp [Device.takeLogout, state]
  · rw [exec_cardOut q h (by simp [state])]
    simp [Device.takeCardOut, state, account]

/-! ### SERVICE and MGMT -/

/-- Settles O18, by the forward filter and the room in each queue. -/
theorem serviceAndManagementFramesAreQueued : Obligations.ServiceAndManagementFramesAreQueued := by
  refine ⟨fun d q st payload h hd least most => ?_, fun d q tag kind params h fits => ?_⟩
  · have fits : textFits payload = true := by simp [textFits, Config.textLimit, least, most]
    have filter : (d.awake st).configs[st] = d.configs[st] := by rw [Device.awake_configs]
    rw [exec_service q h hd payload fits, Device.takeService, filter]
    refine ⟨fun block => ?_, fun pass room => ?_, fun pass full => ?_⟩
    · rw [block]
    · simp only [pass, Device.awake_serviceUp, Config.serviceUpCapacity, room, if_true]
    · simp only [pass, Device.awake_serviceUp, Config.serviceUpCapacity, Nat.not_lt.mpr full, if_false]
      rfl
  · have taken : exec (.mgmt tag kind params) ⟨d, q⟩ =
        .next ⟨d.heardUplink.takeMgmt { tag := tag, kind := kind, params := params }, q⟩ := by
      refine Eq.trans ?_ (State.onDevice_receiveUplink d q (fun d => d.takeMgmt _) h)
      simp [exec, execMgmt, Config.paramLimit, fits]
    rw [taken]
    refine ⟨fun room => ?_, fun full => ?_⟩
    · rw [Device.takeMgmt, if_pos (show d.heardUplink.mgmt.input.length < Config.inputCapacity from room)]
      rfl
    · rw [Device.takeMgmt, if_neg (show ¬ d.heardUplink.mgmt.input.length < Config.inputCapacity from Nat.not_lt.mpr full)]

/-! ### START -/

/-- R33, first check: a START with a parameter out of its range is no order. -/
theorem readOrder_eq_none (sheets sets : Half) (sides size colour last : Byte)
    (h : sheets.toNat = 0 ∨ 999 < sheets.toNat ∨ sets.toNat = 0 ∨ 9999 < sets.toNat ∨ sides.toNat = 0 ∨ 2 < sides.toNat ∨
      3 < size.toNat ∨ 1 < colour.toNat) : readOrder sheets sets sides size colour last = none := by
  by_cases badSize : 3 < size.toNat
  · have : readSize size = none := by simp [readSize]; omega
    simp [readOrder, this]
  by_cases badColour : 1 < colour.toNat
  · have : readColour colour = none := by
      have zero : colour ≠ 0#8 := by rintro rfl; simp at badColour
      have one : colour ≠ 1#8 := by rintro rfl; simp at badColour
      simp [readColour, zero, one]
    simp [readOrder, this]
  unfold readOrder
  split
  · rw [if_neg (by omega)]
  · rfl

/-- Settles O20, by the state of the station. -/
theorem startIsRefused : Obligations.StartIsRefused := by
  intro d q st sheets sets sides size colour last h
  have taken := fun hd => exec_start q h hd sheets sets sides size colour last
  refine ⟨?_, fun state => ?_, fun state busy => ?_, fun state => ?_, fun state bad => ?_⟩
  · rintro (state | ⟨ref, state⟩) <;> rw [taken (by simp [state])] <;> simp [Device.takeStart, state, Device.deny]
  · simp only [List.mem_cons, List.not_mem_nil, or_false] at state
    rcases state with s | s | s | s | s <;> rw [taken (by simp [s])] <;> simp [Device.takeStart, s, Device.deny]
  · rw [taken (by simp [state])]
    have occupied : ¬ (d.path st = [] ∧ (d.ctx st).endPending = none) := fun e => busy.elim (absurd e.1) (absurd e.2)
    simp [Device.takeStart, state, Device.deny, Device.pathEmpty, occupied]
  · rw [taken (by simp [state])]
    simp [Device.takeStart, state, Device.deny]
  · rw [taken (by simp [state]), readOrder_eq_none _ _ _ _ _ _ bad]
    simp [Device.takeStart, state, Device.deny, Device.admission]

/-! ### Frames about sheets -/

section
variable {d : Device} {st : Station}

/-- R5, R16, R19, R38: a station that has no job under way takes no FEED, EXIT or JAM. -/
theorem Device.takeSheet_without_job
    (h : (d.ctx st).state ∈ [StationState.idle, .opened, .offline .service] ∨ (∃ ref, (d.ctx st).state = .funding ref) ∨
      ((d.ctx st).state = .closing ∧ (d.ctx st).job = none)) (o : Half) (size colour : Byte) (l : List Half) :
    d.takeFeed st o size colour = d.protocolFault st ∧ d.takeExit st o = d.protocolFault st ∧
      d.takeJam st l = d.protocolFault st := by
  simp only [List.mem_cons, List.not_mem_nil, or_false] at h
  obtain (s | s | s) | ⟨ref, s⟩ | ⟨s, j⟩ := h
  case inr.inr => simp [Device.takeFeed, Device.takeExit, Device.takeJam, s, j]
  all_goals simp [Device.takeFeed, Device.takeExit, Device.takeJam, s]

/-- R65: a CLEAR is taken in JAMMED alone. -/
theorem Device.takeClear_of_not_jammed (h : ∀ r, (d.ctx st).state ≠ .jammed r) (items : List (Half × Byte)) :
    d.takeClear st items = d.protocolFault st := by
  unfold Device.takeClear
  split
  · rename_i r e; exact absurd e (h r)
  · rfl

theorem Device.takeFeed_of_jammed {r : Resume} (h : (d.ctx st).state = .jammed r) (o : Half) (size colour : Byte) :
    d.takeFeed st o size colour = d.protocolFault st := by
  simp [Device.takeFeed, h]

/-- R39, first check: an ordinal that the path list holds already. -/
theorem Device.takeFeed_of_carried {o : Half} (h : ∃ e ∈ d.path st, e.ordinal = o) (size colour : Byte) :
    d.takeFeed st o size colour = d.protocolFault st := by
  have carried : carries (d.path st) o = true := by simpa [carries] using h
  unfold Device.takeFeed
  split
  · rw [Device.feedSheet, if_pos carried]
  · rw [Device.feedSheet, if_pos carried]
  · rw [Device.feedSheet, if_pos carried]
  · rfl

/-- A FEED in RUNNING, HELD and CLOSING goes through the checks of R39 alike. -/
theorem Device.takeFeed_of_job {s : Session} {j : Job} (state : (d.ctx st).state ∈ [StationState.running, .held, .closing])
    (session : (d.ctx st).session = some s) (job : (d.ctx st).job = some j) (o : Half) (size colour : Byte) :
    d.takeFeed st o size colour = d.feedSheet st s j o size colour := by
  simp only [List.mem_cons, List.not_mem_nil, or_false] at state
  rcases state with h | h | h <;> simp [Device.takeFeed, h, session, job]

/-- R39, third check: a sheet of the job's own size and colour fed to a full list. -/
theorem Device.feedSheet_of_full {o : Half} (s : Session) (j : Job) (absent : ∀ e ∈ d.path st, e.ordinal ≠ o)
    (full : 8 ≤ (d.path st).length) : d.feedSheet st s j o 0xFF#8 0xFF#8 = d.untrackedSheet st := by
  have new : carries (d.path st) o = false := by simpa [carries] using absent
  simp [Device.feedSheet, new, feedSize, feedColour, Device.protocolFaultIf, Config.pathCapacity, full]

/-- R42: an ordinal that no entry carries. -/
theorem Device.takeExit_of_absent {o : Half} (h : ∀ e ∈ d.path st, e.ordinal ≠ o) :
    d.takeExit st o = d.protocolFault st := by
  have none : d.entryOf st o = .none := by simpa [Device.entryOf] using h
  simp [Device.takeExit, none]

end

/-- Settles O25: each frame comes to the one fault of R25, or, for a full list, to the count of untracked sheets. -/
theorem sheetFramesOutOfPlaceAreFaults : Obligations.SheetFramesOutOfPlaceAreFaults := by
  intro d q st ordinal size colour ordinals items h few fewItems
  have feed := fun hd => exec_feed q h hd ordinal size colour
  have exit := fun hd => exec_exit q h hd ordinal
  have clear := fun hd => exec_clear q h hd items fewItems
  refine ⟨fun state => ?_, fun state => ?_, fun state => ?_, fun state carried => ?_, fun state session job absent full => ?_,
    fun state absent => ?_⟩
  · have hd : (d.ctx st).state ≠ .doze := by rintro e; simp [e] at state
    have jammed : ∀ r, ((d.awake st).ctx st).state ≠ .jammed r := by
      rw [Device.state_awake]; rintro r e; simp [e] at state
    obtain ⟨f, e, j⟩ := (d.awake st).takeSheet_without_job (st := st) (by simpa using state) ordinal size colour ordinals
    rw [feed hd, exit hd, clear hd, exec_jam q h hd ordinals few, f, e, j, Device.takeClear_of_not_jammed jammed]
    exact ⟨rfl, rfl, rfl, rfl⟩
  · have jammed : ∀ r, ((d.awake st).ctx st).state ≠ .jammed r := by
      rw [Device.state_awake]; rintro r e; simp [e] at state
    rw [clear (by rintro e; simp [e] at state), Device.takeClear_of_not_jammed jammed]
    rfl
  · have jammed : ∃ r, ((d.awake st).ctx st).state = .jammed r := by
      rw [Device.state_awake]
      simp only [List.mem_cons, List.not_mem_nil, or_false] at state
      rcases state with s | s | s <;> exact ⟨_, s⟩
    obtain ⟨r, e⟩ := jammed
    rw [feed (by rintro e; simp [e] at state), Device.takeFeed_of_jammed e]
    rfl
  · rw [feed (by rintro e; simp [e] at state), Device.takeFeed_of_carried (by simpa using carried)]
    rfl
  · obtain ⟨s, session⟩ := Option.ne_none_iff_exists'.mp session
    obtain ⟨j, job⟩ := Option.ne_none_iff_exists'.mp job
    have heard : d.awake st = d.heard st :=
      d.awake_eq_heard st (by rintro e; simp [e] at state) (by rintro e; simp [e] at state)
    rw [exec_feed q h (by rintro e; simp [e] at state), heard,
      (d.heard st).takeFeed_of_job state session job,
      (d.heard st).feedSheet_of_full s j absent full]
    rfl
  · rw [exit (by rintro e; simp [e] at state), Device.takeExit_of_absent (by simpa using absent)]
    rfl

/-! ### STATION_WAKE, STATION_CLEAR and STATION_CONFIG -/

section
variable {d : Device} (q : List Instr) {tag : Half} {params : List Byte} {rest : List MgmtRequest}

/-- R173, R178: a management command whose request passes the three checks is answered by its owner. -/
theorem State.onRequest_of_takes {kind : Byte} (owner : Device → MgmtRequest → Answer)
    (h : d.Takes { tag := tag, kind := kind, params := params } rest)
    (good : requestFault { tag := tag, kind := kind, params := params } = none) :
    State.onRequest ⟨d, q⟩ kind owner =
      let a := owner (d.taken rest) { tag := tag, kind := kind, params := params }
      .next ⟨a.device.reply tag a.status a.data, q⟩ := by
  refine (State.onDevice_running d q _ h.works).trans ?_
  rw [d.takeRequest_of_takes _ rest _ owner h (by simp) good]

theorem State.onRequest_of_fault {kind : Byte} (owner : Device → MgmtRequest → Answer) {status : Status}
    (h : d.Takes { tag := tag, kind := kind, params := params } rest)
    (bad : requestFault { tag := tag, kind := kind, params := params } = some status) :
    State.onRequest ⟨d, q⟩ kind owner = .next ⟨(d.taken rest).reply tag status .none, q⟩ := by
  refine (State.onDevice_running d q _ h.works).trans ?_
  rw [d.takeRequest_of_fault _ rest _ owner status h (by simp) bad]

/-- R203: the number of a station reads back as the station. -/
theorem readStation_eq_some {b : Byte} {st : Station} (h : b.toNat = st.val) : readStation b = some st := by
  have bound := st.isLt
  simp [readStation, h]

theorem readStation_ofNat (st : Station) : readStation (BitVec.ofNat 8 st.val) = some st :=
  readStation_eq_some (by have := st.isLt; simp; omega)

/-- R8, R9, R13, R25, R156: a request about a station, of a good length, goes to the answer about that station. -/
theorem exec_answerStation {kind b : Byte} {more : List Byte} {st : Station}
    (owner : Device → MgmtRequest → Answer) (f : Station → Answer) (number : readStation b = some st)
    (length : paramLength kind = some (more.length + 1))
    (h : d.Takes { tag := tag, kind := kind, params := b :: more } rest)
    (owns : owner (d.taken rest) { tag := tag, kind := kind, params := b :: more } =
      (d.taken rest).answerStation { tag := tag, kind := kind, params := b :: more } f) :
    State.onRequest ⟨d, q⟩ kind owner = .next ⟨(f st).device.reply tag (f st).status (f st).data, q⟩ := by
  have answer : owner (d.taken rest) { tag := tag, kind := kind, params := b :: more } = f st := by
    rw [owns]
    simp [Device.answerStation, MgmtRequest.station, number]
  rw [State.onRequest_of_takes q owner h (by simp [requestFault, length, number]), answer]

end

/-- Settles O51. -/
theorem stationWakeWakesFromDoze : Obligations.StationWakeWakesFromDoze := by
  intro d q tag rest number h
  refine ⟨fun high => ?_, fun st named => ?_⟩
  · have bad : readStation number = none := by simp [readStation]; omega
    exact State.onRequest_of_fault q _ h (by simp [requestFault, paramLength, namesStation, bad])
  · have taken := exec_answerStation q Device.answerStationWake
      (fun st => ((d.taken rest).wakeStation st).answerState st) (readStation_eq_some named) rfl h rfl
    refine ⟨fun doze => taken.trans ?_, fun awake => taken.trans ?_⟩
    · rw [Device.wakeStation, if_pos (show ((d.taken rest).ctx st).state = .doze from doze), Device.enterIdle,
        Device.send_mgmt]
      rfl
    · rw [Device.wakeStation, if_neg (show ¬ ((d.taken rest).ctx st).state = .doze from awake)]
      rfl

/-- R207: the codes of a policy, a filter and a mask that are in range. -/
theorem readPolicy_eq (b : Byte) : readPolicy b =
    if b.toNat ≤ 1 then some (if b = 0#8 then .charge else .forgive) else none := by
  revert b; decide

theorem readFilter_eq (b : Byte) : readFilter b =
    if b.toNat ≤ 1 then some (if b = 0#8 then .pass else .block) else none := by
  revert b; decide

/-- Settles O52. -/
theorem stationIsClearedAndConfigured : Obligations.StationIsClearedAndConfigured := by
  intro d q tag rest st
  refine ⟨fun h => ?_, fun policy filter mask h => ?_⟩
  · exact exec_answerStation q Device.answerStationClear
      (fun st => ((d.taken rest).modFaults st fun _ => .clear).answerState st) (readStation_ofNat st) rfl h rfl
  · have taken := exec_answerStation q Device.answerStationConfig _ (readStation_ofNat st) rfl h rfl
    refine ⟨fun bad => taken.trans ?_, fun goodPolicy goodFilter goodMask => taken.trans ?_⟩
    · simp only [List.getD_cons_succ, List.getD_cons_zero, readPolicy_eq, readFilter_eq, readMask]
      split
      · rename_i policyRead filterRead maskRead
        have := (Option.ite_none_right_eq_some.mp policyRead).1
        have := (Option.ite_none_right_eq_some.mp filterRead).1
        have := (Option.ite_none_right_eq_some.mp maskRead).1
        omega
      · rfl
    · simp only [List.getD_cons_succ, List.getD_cons_zero, readPolicy_eq, readFilter_eq, readMask, goodPolicy, goodFilter,
        Nat.lt_succ_of_le goodMask, if_true, Device.answerRecord, Device.configs_modConfig]
      rfl

/-! ### The state after reset -/

theorem Device.ctx_powerOn (pins : Vector Bool 16) (up : Bool) (n : Nat) (st : Station) :
    (Device.powerOn pins up n).ctx st = Context.powerOn pins[st] := by
  simp [Device.ctx, Device.powerOn]

theorem Device.port_powerOn (pins : Vector Bool 16) (up : Bool) (n : Nat) (st : Station) :
    (Device.powerOn pins up n).port st = Port.powerOn pins[st] := by
  simp [Device.port, Device.powerOn]

theorem Device.path_powerOn (pins : Vector Bool 16) (up : Bool) (n : Nat) (st : Station) :
    (Device.powerOn pins up n).path st = [] := by
  simp [Device.path, Device.powerOn]

/-- R2, R150, R171, R191: the power-on state is safe, whatever the carrier-detect inputs read. -/
theorem Device.powerOn_safe (pins : Vector Bool 16) (up : Bool) (n : Nat) : (Device.powerOn pins up n).Safe := by
  refine ⟨fun st => ?_, ⟨fun st => ?_, fun st => ?_, ?_, ?_, fun st => ?_, ?_, ?_, ?_, ?_⟩, ?_⟩
  · rw [Device.port_powerOn]
    exact ⟨fun e => by simp [Port.powerOn] at e, fun _ => ⟨rfl, rfl, rfl⟩⟩
  · rw [Device.port_powerOn]
    exact ⟨Nat.zero_le _, Nat.zero_le _⟩
  · rw [Device.path_powerOn]
    exact Nat.zero_le _
  case refine_11 => intro waiting; cases waiting
  all_goals exact Nat.zero_le _

/-- Settles O60. -/
theorem resetHasTheLaws : Obligations.ResetHasTheLaws :=
  ⟨Device.powerOn_safe _ _ _, Nat.zero_le _, List.Pairwise.nil, fun _ h => absurd h List.not_mem_nil, rfl⟩

end Sys2Proof.Machine
end

section
/-! PROOF. Carrier and doze (O8, O11), and how sessions and authorizations begin and end without a job: KEYIN (O16), CARD (O17),
CARD_OUT in FUNDING (O15) and the payment unit's word on a pending slot (O40). -/

namespace Sys2Proof.Machine

/-! ### Carrier -/

/-- R153: the part when a station's carrier has been lost, before the session engine takes the loss. -/
def Device.carrierLost (d : Device) (st : Station) : Device :=
  ({ d with carrierDetect := d.carrierDetect.set st false }.modPort st Port.loseCarrier).notice .carrier (some st)

/-- R153: the part when a station's carrier has returned, before the session engine takes the return. -/
def Device.carrierBack (d : Device) (st : Station) : Device :=
  ({ d with carrierDetect := d.carrierDetect.set st true }.modPort st fun p => { p with carrier := true }).notice
    .carrier (some st)

@[simp] theorem Device.ctx_carrierLost (d : Device) (st x : Station) : (d.carrierLost st).ctx x = d.ctx x := rfl

@[simp] theorem Device.ctx_carrierBack (d : Device) (st x : Station) : (d.carrierBack st).ctx x = d.ctx x := rfl

/-- R6, R153: a loss of carrier reaches the port and the notice unit, and then the session engine. -/
theorem exec_stationCarrierLoss (d : Device) (q : List Instr) (st : Station) (works : d.Works)
    (present : (d.port st).carrier = true) :
    exec (.stationCarrierLoss st) ⟨d, q⟩ = .next ⟨(d.carrierLost st).contextCarrierLoss st, q⟩ := by
  refine (State.onDevice_running { d with carrierDetect := d.carrierDetect.set st false } q
    (fun d => d.takeCarrierLoss st) works).trans ?_
  rw [Device.takeCarrierLoss, if_pos (by exact present)]
  rfl

/-- R7, R153: a return of carrier reaches the port and the notice unit, and then the session engine. -/
theorem exec_stationCarrierReturn (d : Device) (q : List Instr) (st : Station) (works : d.Works)
    (absent : (d.port st).carrier = false) :
    exec (.stationCarrierReturn st) ⟨d, q⟩ = .next ⟨(d.carrierBack st).contextCarrierReturn st, q⟩ := by
  refine (State.onDevice_running { d with carrierDetect := d.carrierDetect.set st true } q
    (fun d => d.takeCarrierReturn st) works).trans ?_
  rw [Device.takeCarrierReturn, if_neg (by exact Bool.eq_false_iff.mp absent)]
  rfl

/-- R10: a station without a session or authorization has nothing to tear down. -/
theorem Device.teardown_of_nothing {d : Device} {st : Station}
    (h : (d.ctx st).state = .idle ∨ (d.ctx st).state = .doze ∨ ∃ r, (d.ctx st).state = .offline r) (r : EndReason) :
    d.teardown st r = d := by
  unfold Device.teardown
  obtain h | h | ⟨_, h⟩ := h <;> rw [h]

/-- R6: a station in OFFLINE stays there. -/
theorem Device.contextCarrierLoss_of_offline {d : Device} {st : Station} {r : OfflineReason}
    (h : (d.ctx st).state = .offline r) : d.contextCarrierLoss st = d := by
  rw [Device.contextCarrierLoss, h]

/-- R6: any other station is torn down and enters OFFLINE(carrier). -/
theorem Device.contextCarrierLoss_of_not_offline {d : Device} {st : Station} (h : ∀ r, (d.ctx st).state ≠ .offline r) :
    d.contextCarrierLoss st = (d.teardown st .carrier).enter st (.offline .carrier) := by
  unfold Device.contextCarrierLoss
  split
  · rename_i r e; exact absurd e (h r)
  · rfl

/-- R7: a station in OFFLINE(carrier) goes where its in-service flag sends it. -/
theorem Device.contextCarrierReturn_of_carrier {d : Device} {st : Station} (h : (d.ctx st).state = .offline .carrier) :
    d.contextCarrierReturn st = if d.configs[st].inService then d.enterIdle st else d.enter st (.offline .service) := by
  rw [Device.contextCarrierReturn, h]

/-- R7: any other station stays as it is. -/
theorem Device.contextCarrierReturn_of_not_carrier {d : Device} {st : Station} (h : (d.ctx st).state ≠ .offline .carrier) :
    d.contextCarrierReturn st = d := by
  unfold Device.contextCarrierReturn
  split
  · rename_i e; exact absurd e h
  · rfl

/-- Settles O8: with nothing to tear down, the loss and the return of carrier touch the port, the notice and the state alone. -/
theorem idleStationFollowsItsCarrier : Obligations.IdleStationFollowsItsCarrier := by
  refine ⟨fun d q st works present => ?_, fun d q st works absent => ?_⟩
  · rw [exec_stationCarrierLoss d q st works present]
    refine ⟨fun state => ?_, fun r state => ?_⟩
    · rw [Device.contextCarrierLoss_of_not_offline (by rintro r e; simp [show (d.ctx st).state = _ from e] at state),
        Device.teardown_of_nothing (by simpa [← or_assoc] using .inl state)]
      rfl
    · rw [Device.contextCarrierLoss_of_offline (show ((d.carrierLost st).ctx st).state = .offline r from state)]
      rfl
  · rw [exec_stationCarrierReturn d q st works absent]
    refine ⟨fun state service => ?_, fun state service => ?_, fun state => ?_⟩
    · rw [Device.contextCarrierReturn_of_carrier (by exact state), if_pos (by exact service)]
      rfl
    · rw [Device.contextCarrierReturn_of_carrier (by exact state), if_neg (by exact Bool.eq_false_iff.mp service)]
      rfl
    · rw [Device.contextCarrierReturn_of_not_carrier (by exact state)]
      rfl

/-! ### Doze -/

/-- R12, R157: a frame presented to a dozing station: it is a fault without a wake class, it wakes the station if its class is
in the mask, and it is discarded with TOUCH if not. -/
theorem Device.present_of_doze {d : Device} {st : Station} (h : (d.ctx st).state = .doze) (f : Device → Device) :
    d.present st none f = d.protocolFault st ∧
    ∀ w, d.present st (some w) f =
      if d.configs[st].wakeMask.holds w then f ((d.send st .wake).enterIdle st) else d.notice .touch (some st) := by
  unfold Device.present
  rw [h]
  exact ⟨rfl, fun _ => rfl⟩

theorem State.onDevice_stationFrame_of_doze {d : Device} (q : List Instr) {st : Station} (w : Option WakeClass)
    (f : Device → Device) (h : d.Hears st) :
    State.onDevice ⟨d, q⟩ (fun d => d.stationFrame st w f) = .next ⟨((d.heard st).present st w f).transmit st, q⟩ :=
  State.onDevice_receiveStation d q st _ h

/-- R12, R157: every well-formed routed frame of a station goes to the presentation with its wake class. -/
theorem exec_eq_stationFrame (d : Device) (q : List Instr) (i : Instr) (st : Station) (w : WakeClass) (wf : i.wf = true)
    (class_ : i.wakeClass = some (st, w)) :
    ∃ f, exec i ⟨d, q⟩ = State.onDevice ⟨d, q⟩ fun d => d.stationFrame st (some w) f := by
  cases i <;> simp only [Instr.wakeClass, Option.some.injEq, Prod.mk.injEq, reduceCtorEq] at class_
  case jam l =>
    obtain ⟨rfl, rfl⟩ := class_
    exact ⟨_, by simp [exec, execJam, Nat.not_lt.mpr (of_decide_eq_true wf)]; rfl⟩
  case clear items =>
    obtain ⟨rfl, rfl⟩ := class_
    exact ⟨_, by simp [exec, execClear, Nat.not_lt.mpr (of_decide_eq_true wf)]; rfl⟩
  case service payload =>
    obtain ⟨rfl, rfl⟩ := class_
    exact ⟨_, by simp [exec, execService, show textFits payload = true from wf]; rfl⟩
  case card token =>
    obtain ⟨rfl, rfl⟩ := class_
    exact ⟨_, by simp [exec, execCard, show token.length = Config.tokenLength from eq_of_beq wf]; rfl⟩
  all_goals
    obtain ⟨rfl, rfl⟩ := class_
    exact ⟨_, rfl⟩

/-- R11, R12: the part when a frame has woken a dozing station. -/
def Device.woken (d : Device) (st : Station) : Device :=
  (((d.heard st).send st .wake).enter st .idle).modCtx st fun c => { c with dozeTimer := d.mgmt.params.dozeStart }

theorem Device.state_woken (d : Device) (st : Station) : ((d.woken st).ctx st).state = .idle := by simp [Device.woken]

/-- R12: a frame whose class is in the wake mask wakes the station and is then taken. -/
theorem State.onDevice_stationFrame_of_woken {d : Device} (q : List Instr) {st : Station} (w : WakeClass)
    (f : Device → Device) (h : d.Hears st) (doze : (d.ctx st).state = .doze) (holds : d.configs[st].wakeMask.holds w = true) :
    State.onDevice ⟨d, q⟩ (fun d => d.stationFrame st (some w) f) = .next ⟨(f (d.woken st)).transmit st, q⟩ := by
  have woken : ((d.heard st).send st .wake).enterIdle st = d.woken st := by
    rw [Device.enterIdle, Device.send_mgmt]
    rfl
  rw [State.onDevice_stationFrame_of_doze q _ f h, (Device.present_of_doze (d := d.heard st) doze f).2 w,
    if_pos (by exact holds), woken]

/-- R16, R19, R32, R49: what an IDLE station does with the frames that have no session to be about. -/
theorem Device.take_of_idle {d : Device} {st : Station} (h : (d.ctx st).state = .idle) :
    d.takeStop st = d ∧ d.takeLogout st = d ∧ d.takeCardOut st = d ∧ ∀ o, d.takeStart st o = d.send st (.deny .noSession) := by
  refine ⟨?_, by rw [Device.takeLogout, h], by rw [Device.takeCardOut, h], fun o => by rw [Device.takeStart, h]; rfl⟩
  unfold Device.takeStop
  rw [h]
  split
  · rfl
  · split <;> rfl

/-- Settles O11: the doze timer, the presentation in DOZE, and the frames that a woken station takes as in IDLE. -/
theorem stationDozesAndWakes : Obligations.StationDozesAndWakes := by
  refine ⟨fun d q st works idle zero => ?_, ⟨fun d q st i w h doze wf class_ masked => ?_,
    fun d q st endpoint kind h doze notEngine notCard => ?_⟩, fun d q st h doze => ?_⟩
  · refine (State.onDevice_running d q (fun d => d.takeDozeExpiry st) works).trans ?_
    rw [Device.takeDozeExpiry, if_pos ⟨idle, zero⟩]
  · obtain ⟨f, frame⟩ := exec_eq_stationFrame d q i st w wf class_
    rw [frame, State.onDevice_stationFrame_of_doze q _ f h, (Device.present_of_doze (d := d.heard st) doze f).2 w,
      if_neg (by simpa using masked)]
  · have unrouted : routedPair endpoint kind = false := by simp [routedPair, notEngine, notCard]
    have noClass : unroutedWake endpoint = none := by simp [unroutedWake, notEngine, notCard]
    rw [exec_stationUnroutedFrame d q st endpoint kind unrouted, State.onDevice_stationFrame_of_doze q _ _ h, noClass,
      (Device.present_of_doze (d := d.heard st) doze _).1]
    rfl
  · obtain ⟨stop, logout, cardOut, start⟩ := Device.take_of_idle (d.state_woken st)
    refine ⟨fun holds => ⟨?_, ?_, fun n k sides size colour last => ?_⟩, fun holds => ?_⟩
    · refine (State.onDevice_stationFrame_of_woken q .engineOther _ h doze holds).trans ?_
      rw [stop]; rfl
    · refine (State.onDevice_stationFrame_of_woken q .engineOther _ h doze holds).trans ?_
      rw [logout]; rfl
    · refine (State.onDevice_stationFrame_of_woken q .engineOther _ h doze holds).trans ?_
      rw [start]; rfl
    · refine (State.onDevice_stationFrame_of_woken q .card _ h doze holds).trans ?_
      rw [cardOut]; rfl

/-! ### Entry to OPEN -/

/-- R17: what a funding has left to spend. -/
def Device.remainingOf (d : Device) : Funding → Nat
  | .account n => match d.account n with
    | some a => a.available
    | none => 0
  | .card ref => (d.slot ref.slot).approved - (d.slot ref.slot).consumed

theorem Device.remaining_eq {d : Device} {st : Station} {s : Session} (h : (d.ctx st).session = some s) :
    d.remaining st = d.remainingOf s.funding := by
  obtain ⟨funding, _, _, _, _, _, _, _, _, _⟩ := s
  unfold Device.remaining
  rw [h]
  cases funding <;> rfl

/-- R17, R22: the context of a station that has entered OPEN. -/
@[simp] theorem Device.ctx_enterOpen (d : Device) (st : Station) : (d.enterOpen st).ctx st = { d.ctx st with
    state := .opened, dozeTimer := none, idleTimer := some d.mgmt.params.idleTime, waitTimer := none, jamTimer := none } := by
  simp [Device.enterOpen]

/-- R17: the BALANCE of a station that enters OPEN. -/
theorem Device.port_enterOpen {d : Device} {st : Station} {s : Session} (h : (d.ctx st).session = some s) :
    (d.enterOpen st).port st = (d.port st).queued (.balance (d.remainingOf s.funding)) := by
  have session : ((((d.enter st .opened).modCtx st fun c => { c with idleTimer := some d.mgmt.params.idleTime }).ctx st).session =
    some s) := by simp [h]
  rw [Device.enterOpen, Device.port_send]
  exact congrArg (fun n => ((d.port st).queued (.balance n))) (Device.remaining_eq session)

/-- The entry to OPEN touches no more than the context and the port of the station, and the notice unit. -/
theorem Device.enterOpen_rest (d : Device) (st : Station) : d.enterOpen st =
    { d with contexts := (d.enterOpen st).contexts, ports := (d.enterOpen st).ports, notices := (d.enterOpen st).notices } := by
  unfold Device.enterOpen
  rw [Device.send_rest]
  rfl

@[simp] theorem Device.enterOpen_paths (d : Device) (st : Station) : (d.enterOpen st).paths = d.paths := (congrArg Device.paths (d.enterOpen_rest st) :)
@[simp] theorem Device.enterOpen_path (d : Device) (st : Station) (x : Station) : (d.enterOpen st).path x = d.path x := (congrArg (Device.path · x) (d.enterOpen_rest st) :)
@[simp] theorem Device.enterOpen_accounts (d : Device) (st : Station) : (d.enterOpen st).accounts = d.accounts := (congrArg Device.accounts (d.enterOpen_rest st) :)
@[simp] theorem Device.enterOpen_account (d : Device) (st : Station) (x : Nat) : (d.enterOpen st).account x = d.account x := (congrArg (Device.account · x) (d.enterOpen_rest st) :)
@[simp] theorem Device.enterOpen_slots (d : Device) (st : Station) : (d.enterOpen st).slots = d.slots := (congrArg Device.slots (d.enterOpen_rest st) :)
@[simp] theorem Device.enterOpen_slot (d : Device) (st : Station) (x : SlotNo) : (d.enterOpen st).slot x = d.slot x := (congrArg (Device.slot · x) (d.enterOpen_rest st) :)
@[simp] theorem Device.enterOpen_payQueue (d : Device) (st : Station) : (d.enterOpen st).payQueue = d.payQueue := (congrArg Device.payQueue (d.enterOpen_rest st) :)
@[simp] theorem Device.enterOpen_outstanding (d : Device) (st : Station) : (d.enterOpen st).outstanding = d.outstanding := (congrArg Device.outstanding (d.enterOpen_rest st) :)
@[simp] theorem Device.enterOpen_payReports (d : Device) (st : Station) : (d.enterOpen st).payReports = d.payReports := (congrArg Device.payReports (d.enterOpen_rest st) :)
@[simp] theorem Device.enterOpen_reports (d : Device) (st : Station) : (d.enterOpen st).reports = d.reports := (congrArg Device.reports (d.enterOpen_rest st) :)
@[simp] theorem Device.enterOpen_mgmt (d : Device) (st : Station) : (d.enterOpen st).mgmt = d.mgmt := (congrArg Device.mgmt (d.enterOpen_rest st) :)
@[simp] theorem Device.enterOpen_tariff (d : Device) (st : Station) : (d.enterOpen st).tariff = d.tariff := (congrArg Device.tariff (d.enterOpen_rest st) :)

/-! ### What a change at one station leaves alone elsewhere -/

section
variable {d : Device} {st x : Station} (h : x ≠ st)
include h

theorem Device.ctx_enter_ne (s : StationState) : (d.enter st s).ctx x = d.ctx x := d.ctx_modCtx_ne st x _ h

theorem Device.ctx_enterIdle_ne : (d.enterIdle st).ctx x = d.ctx x :=
  ((d.enter st .idle).ctx_modCtx_ne st x _ h).trans (Device.ctx_enter_ne h _)

theorem Device.ctx_enterOpen_ne : (d.enterOpen st).ctx x = d.ctx x := by
  rw [Device.enterOpen, Device.send_ctx]
  exact ((d.enter st .opened).ctx_modCtx_ne st x _ h).trans (Device.ctx_enter_ne h _)

theorem Device.port_enterOpen_ne : (d.enterOpen st).port x = d.port x := by
  rw [Device.enterOpen, Device.port_send_ne _ _ _ _ h]
  rfl

end

/-- R11: the context of a station that has entered IDLE. -/
@[simp] theorem Device.ctx_enterIdle (d : Device) (st : Station) : (d.enterIdle st).ctx st = { d.ctx st with
    state := .idle, dozeTimer := d.mgmt.params.dozeStart, idleTimer := none, waitTimer := none, jamTimer := none } := by
  simp [Device.enterIdle]

@[simp] theorem Device.enterIdle_paths (d : Device) (st : Station) : (d.enterIdle st).paths = d.paths := rfl
@[simp] theorem Device.enterIdle_path (d : Device) (st : Station) (x : Station) : (d.enterIdle st).path x = d.path x := rfl
@[simp] theorem Device.enterIdle_ports (d : Device) (st : Station) : (d.enterIdle st).ports = d.ports := rfl
@[simp] theorem Device.enterIdle_port (d : Device) (st : Station) (x : Station) : (d.enterIdle st).port x = d.port x := rfl
@[simp] theorem Device.enterIdle_accounts (d : Device) (st : Station) : (d.enterIdle st).accounts = d.accounts := rfl
@[simp] theorem Device.enterIdle_account (d : Device) (st : Station) (x : Nat) : (d.enterIdle st).account x = d.account x := rfl
@[simp] theorem Device.enterIdle_slots (d : Device) (st : Station) : (d.enterIdle st).slots = d.slots := rfl
@[simp] theorem Device.enterIdle_slot (d : Device) (st : Station) (x : SlotNo) : (d.enterIdle st).slot x = d.slot x := rfl
@[simp] theorem Device.enterIdle_payQueue (d : Device) (st : Station) : (d.enterIdle st).payQueue = d.payQueue := rfl
@[simp] theorem Device.enterIdle_outstanding (d : Device) (st : Station) : (d.enterIdle st).outstanding = d.outstanding := rfl
@[simp] theorem Device.enterIdle_payReports (d : Device) (st : Station) : (d.enterIdle st).payReports = d.payReports := rfl
@[simp] theorem Device.enterIdle_reports (d : Device) (st : Station) : (d.enterIdle st).reports = d.reports := rfl
@[simp] theorem Device.enterIdle_notices (d : Device) (st : Station) : (d.enterIdle st).notices = d.notices := rfl
@[simp] theorem Device.enterIdle_tariff (d : Device) (st : Station) : (d.enterIdle st).tariff = d.tariff := rfl
@[simp] theorem Device.enterIdle_mgmt (d : Device) (st : Station) : (d.enterIdle st).mgmt = d.mgmt := rfl

namespace Device.OthersSame

variable {d t u : Device} {st : Station}

theorem refl (d : Device) (st : Station) : d.OthersSame d st := fun _ _ => ⟨rfl, rfl, rfl⟩

theorem trans (h : d.OthersSame t st) (k : t.OthersSame u st) : d.OthersSame u st := fun x hx =>
  let ⟨ctx, path, port⟩ := h x hx
  let ⟨ctx', path', port'⟩ := k x hx
  ⟨ctx'.trans ctx, path'.trans path, port'.trans port⟩

/-- An operation that leaves the contexts, paths and ports alone. -/
theorem of_eq (ctx : t.contexts = d.contexts) (path : t.paths = d.paths) (port : t.ports = d.ports) : d.OthersSame t st :=
  fun x _ => ⟨congrArg (·[x]) ctx, congrArg (·[x]) path, congrArg (·[x]) port⟩

theorem modCtx (d : Device) (st : Station) (f : Context → Context) : d.OthersSame (d.modCtx st f) st :=
  fun x hx => ⟨d.ctx_modCtx_ne st x f hx, rfl, rfl⟩

theorem setPath (d : Device) (st : Station) (p : List PathEntry) : d.OthersSame (d.setPath st p) st :=
  fun x hx => ⟨rfl, d.path_setPath_ne st x p hx, rfl⟩

theorem modPort (d : Device) (st : Station) (f : Port → Port) : d.OthersSame (d.modPort st f) st :=
  fun x hx => ⟨rfl, rfl, d.port_modPort_ne st x f hx⟩

theorem send (d : Device) (st : Station) (f : StationFrame) : d.OthersSame (d.send st f) st :=
  fun x hx => ⟨by simp, by simp, d.port_send_ne st x f hx⟩

theorem awake (d : Device) (st : Station) : d.OthersSame (d.awake st) st :=
  fun x hx => ⟨d.ctx_awake_ne st x hx, by simp, d.port_awake_ne st x hx⟩

theorem enterIdle (d : Device) (st : Station) : d.OthersSame (d.enterIdle st) st :=
  fun _ hx => ⟨Device.ctx_enterIdle_ne hx, rfl, rfl⟩

theorem enterOpen (d : Device) (st : Station) : d.OthersSame (d.enterOpen st) st :=
  fun _ hx => ⟨Device.ctx_enterOpen_ne hx, by rw [Device.enterOpen_rest]; rfl, Device.port_enterOpen_ne hx⟩

theorem openSession (d : Device) (st : Station) (f : Funding) : d.OthersSame (d.openSession st f) st :=
  (of_eq rfl rfl rfl).trans ((modCtx d.bindBank.1 st _).trans (enterOpen _ st))

end Device.OthersSame

namespace Device.Steady

variable {d t : Device}

theorem awake (d : Device) (st : Station) : d.Steady (d.awake st) := by
  rw [d.awake_eq st]
  exact (heard d st).trans (modCtx _ _ _)

/-- A steady operation leaves the pins, the configuration records and the management unit alone. -/
theorem setupSame (h : d.Steady t) : d.SetupSame t :=
  ⟨h.carrierDetect, h.uplinkDetect, h.resetAsserted, h.configs, h.mgmt, h.freeCount⟩

/-- A steady operation that places no report leaves the uplink's side alone. -/
theorem uplinkSame (h : d.Steady t) (reports : t.reports = d.reports) : d.UplinkSame t := ⟨h.uplink, reports, h.serviceUp⟩

end Device.Steady

end Sys2Proof.Machine
end

section
/-! PROOF. KEYIN (O16), CARD (O17) and the payment unit's word on a pending slot (O40): how a session begins. -/

namespace Sys2Proof.Machine

/-! ### A session begins -/

section
variable {d : Device} {st : Station} {f : Funding}

/-- R3, R14, R16, R75: the context of a station whose session has been opened. -/
theorem Device.ctx_openSession : (d.openSession st f).ctx st = { d.ctx st with
    state := .opened, dozeTimer := none, idleTimer := some d.mgmt.params.idleTime, waitTimer := none, jamTimer := none
    session := some (newSession f d.tariff.selector) } := by
  simp only [Device.openSession, Device.bindBank, Device.ctx_enterOpen, Device.ctx_modCtx]
  rfl

/-- R17: the BALANCE of a session that begins. -/
theorem Device.port_openSession : (d.openSession st f).port st = (d.port st).queued (.balance (d.remainingOf f)) := by
  rw [Device.openSession, Device.port_enterOpen (s := newSession f d.tariff.selector) (by simp; rfl)]
  cases f <;> rfl

/-- R75: a session that begins touches the context and the port of its station, the selected bank and the notice unit. -/
theorem Device.openSession_rest : d.openSession st f = { d with
    contexts := (d.openSession st f).contexts, ports := (d.openSession st f).ports, notices := (d.openSession st f).notices
    tariff := d.tariff.modBank d.tariff.selector fun b => { b with refCount := b.refCount + 1 } } := by
  unfold Device.openSession
  rw [Device.enterOpen_rest]
  rfl

end

@[simp] theorem Device.openSession_paths (d : Device) (st : Station) (f : Funding) : (d.openSession st f).paths = d.paths := (congrArg Device.paths (Device.openSession_rest (d := d) (st := st) (f := f)) :)
@[simp] theorem Device.openSession_path (d : Device) (st : Station) (f : Funding) (x : Station) : (d.openSession st f).path x = d.path x := (congrArg (Device.path · x) (Device.openSession_rest (d := d) (st := st) (f := f)) :)
@[simp] theorem Device.openSession_accounts (d : Device) (st : Station) (f : Funding) : (d.openSession st f).accounts = d.accounts := (congrArg Device.accounts (Device.openSession_rest (d := d) (st := st) (f := f)) :)
@[simp] theorem Device.openSession_account (d : Device) (st : Station) (f : Funding) (x : Nat) : (d.openSession st f).account x = d.account x := (congrArg (Device.account · x) (Device.openSession_rest (d := d) (st := st) (f := f)) :)
@[simp] theorem Device.openSession_slots (d : Device) (st : Station) (f : Funding) : (d.openSession st f).slots = d.slots := (congrArg Device.slots (Device.openSession_rest (d := d) (st := st) (f := f)) :)
@[simp] theorem Device.openSession_slot (d : Device) (st : Station) (f : Funding) (x : SlotNo) : (d.openSession st f).slot x = d.slot x := (congrArg (Device.slot · x) (Device.openSession_rest (d := d) (st := st) (f := f)) :)
@[simp] theorem Device.openSession_payQueue (d : Device) (st : Station) (f : Funding) : (d.openSession st f).payQueue = d.payQueue := (congrArg Device.payQueue (Device.openSession_rest (d := d) (st := st) (f := f)) :)
@[simp] theorem Device.openSession_outstanding (d : Device) (st : Station) (f : Funding) : (d.openSession st f).outstanding = d.outstanding := (congrArg Device.outstanding (Device.openSession_rest (d := d) (st := st) (f := f)) :)
@[simp] theorem Device.openSession_payReports (d : Device) (st : Station) (f : Funding) : (d.openSession st f).payReports = d.payReports := (congrArg Device.payReports (Device.openSession_rest (d := d) (st := st) (f := f)) :)
@[simp] theorem Device.openSession_reports (d : Device) (st : Station) (f : Funding) : (d.openSession st f).reports = d.reports := (congrArg Device.reports (Device.openSession_rest (d := d) (st := st) (f := f)) :)
@[simp] theorem Device.openSession_mgmt (d : Device) (st : Station) (f : Funding) : (d.openSession st f).mgmt = d.mgmt := (congrArg Device.mgmt (Device.openSession_rest (d := d) (st := st) (f := f)) :)

theorem Device.tariff_openSession (d : Device) (st : Station) (f : Funding) : (d.openSession st f).tariff =
    d.tariff.modBank d.tariff.selector fun b => { b with refCount := b.refCount + 1 } :=
  (congrArg Device.tariff (Device.openSession_rest (d := d) (st := st) (f := f)) :)

/-! ### KEYIN -/

section
variable {d : Device} {st : Station} {n : Nat} {pin : Half} {a : Account}

/-- R87: a number that is 0 or in no entry. -/
theorem Device.credentialCheck_of_unknown (h : n = 0 ∨ d.account n = none) :
    d.credentialCheck st n pin = (d, some .noAccount) := by
  unfold Device.credentialCheck
  split
  · rfl
  · rename_i e
    rw [if_pos (h.resolve_right (by simp [e]))]

/-- R87: an entry that is CLOSED or STOPPED. -/
theorem Device.credentialCheck_of_inactive (known : d.account n = some a) (positive : n ≠ 0) :
    (a.state = .closed → d.credentialCheck st n pin = (d, some .closed)) ∧
    (a.state = .stopped → d.credentialCheck st n pin = (d, some .stopped)) := by
  simp only [Device.credentialCheck, known, positive, if_false]
  exact ⟨fun h => by rw [h], fun h => by rw [h]⟩

/-- R88: a wrong PIN is a failure of the entry, with the notice at the limit. -/
theorem Device.credentialCheck_of_badPin (known : d.account n = some a) (positive : n ≠ 0) (active : a.state = .active)
    (set : a.pin ≠ 0) (wrong : a.pin ≠ pin) :
    d.credentialCheck st n pin =
      (let failed := d.modAccount n fun a => a.failPin d.mgmt.params.pinFailureLimit
       if d.mgmt.params.pinFailureLimit ≤ a.pinFailures + 1 then failed.notice .accountStopped (some st) else failed,
       some .badPin) := by
  have fails : a.pin ≠ 0 ∧ a.pin ≠ pin := ⟨set, wrong⟩
  simp only [Device.credentialCheck, known, positive, active, fails, if_false, if_true, ne_eq, not_false_eq_true, and_self]

/-- R89: a KEYIN that passes the check. -/
theorem Device.credentialCheck_of_pass (known : d.account n = some a) (positive : n ≠ 0) (active : a.state = .active)
    (right : a.pin = 0 ∨ a.pin = pin) : d.credentialCheck st n pin = (d.modAccount n Account.opened, none) := by
  have pass : ¬ (a.pin ≠ 0 ∧ a.pin ≠ pin) := fun e => right.elim e.1 e.2
  simp only [Device.credentialCheck, known, positive, active, pass, if_false]

/-- R14, R74: a KEYIN in IDLE, by the answer of the credential check. -/
theorem Device.takeKeyin_of_idle (idle : (d.ctx st).state = .idle) :
    (d.tariffReady = false → d.takeKeyin st n pin = d.send st (.deny .noTariff)) ∧
    (d.tariffReady = true → ∀ t r, d.credentialCheck st n pin = (t, some r) → d.takeKeyin st n pin = t.send st (.deny r)) ∧
    (d.tariffReady = true → ∀ t, d.credentialCheck st n pin = (t, none) →
      d.takeKeyin st n pin = t.openSession st (.account n)) := by
  simp only [Device.takeKeyin, idle, Device.checkKeyin]
  refine ⟨fun h => by simp [h]; rfl, fun h t r e => by simp [h, e]; rfl, fun h t e => by simp [h, e]⟩

end

theorem Device.tariffReady_awake (d : Device) (st : Station) : (d.awake st).tariffReady = d.tariffReady := by
  simp [Device.tariffReady]

/-- R14, R17, R75, R89: what a KEYIN that passes the checks leaves. -/
theorem keyin_opens (d : Device) (q : List Instr) (st : Station) (number : Amount24) (pin : Half) (a : Account)
    (h : d.Hears st) (idle : (d.ctx st).state = .idle) (loaded : d.tariffReady = true) (positive : number ≠ 0)
    (known : d.account number.toNat = some a) (active : a.state = .active) (right : a.pin = 0 ∨ a.pin = pin) :
    exec (.keyin st number pin) ⟨d, q⟩ =
      .next ⟨(((d.awake st).modAccount number.toNat Account.opened).openSession st (.account number.toNat)).transmit st, q⟩ := by
  have nonzero : number.toNat ≠ 0 := fun e => positive (BitVec.eq_of_toNat_eq e)
  rw [exec_keyin q h (by simp [idle]),
    (Device.takeKeyin_of_idle (d := d.awake st) (by simpa using idle)).2.2 (by simpa [Device.tariffReady_awake] using loaded) _
      (Device.credentialCheck_of_pass (a := a) (by simpa using known) nonzero active right)]

/-- Settles O16. -/
theorem keyinOpensSessionOrIsRefused : Obligations.KeyinOpensSessionOrIsRefused := by
  refine ⟨fun d q st number pin a h idle loaded positive known active right => ?_, fun d q st number pin h => ?_⟩
  · refine ⟨_, keyin_opens d q st number pin a h idle loaded positive known active right, ?_⟩
    have entry := (d.awake st).account_modAccount number.toNat Account.opened fun _ => rfl
    have opened : ((d.awake st).modAccount number.toNat Account.opened).account number.toNat = some a.opened := by
      rw [entry, Device.awake_account, known]; rfl
    have steady := ((Device.Steady.awake d st).trans (.modAccount _ number.toNat Account.opened)).trans
      (.openSession _ st (.account number.toNat))
    refine ⟨?_, fun m hm => ?_, ?_, ?_, ?_, ?_, ?_, ?_, ?_, ?_, ?_⟩
    · rw [Device.openSession_account, opened]; rfl
    · rw [Device.openSession_account]
      exact ((d.awake st).account_modAccount_ne number.toNat m Account.opened (fun _ => rfl) hm).trans (by simp)
    · rw [Device.ctx_openSession]
      simp [Device.ctx_awake, Context.presented, idle, newSession]
    · rw [Device.tariff_openSession]; simp
    · rw [Device.port_openSession, Device.remainingOf, opened]
      simp [Account.available, Account.opened]
    · simp
    · exact (Device.OthersSame.awake d st).trans ((Device.OthersSame.of_eq rfl rfl rfl).trans (.openSession _ st _))
    · exact ⟨by simp, by simp, by simp, steady.staleVoids, by simp⟩
    · exact steady.setupSame
    · exact steady.uplinkSame (by simp)
    · exact steady.exporting
  · have taken := fun hd => exec_keyin q h hd number pin
    refine ⟨fun idle => ?_, fun offline => ?_, fun busy => ?_⟩
    · obtain ⟨empty, refused, -⟩ := Device.takeKeyin_of_idle (d := d.awake st) (st := st) (n := number.toNat) (pin := pin)
        (by simpa using idle)
      rw [d.tariffReady_awake st] at empty refused
      rw [taken (by simp [idle])]
      refine ⟨fun notLoaded => by rw [empty notLoaded], fun loaded => ⟨fun unknown => ?_, fun a positive known => ?_⟩⟩
      · have unknown : number.toNat = 0 ∨ (d.awake st).account number.toNat = none :=
          unknown.imp (fun e => by rw [e]; rfl) fun e => by simpa using e
        rw [refused loaded _ _ (Device.credentialCheck_of_unknown unknown)]
      · have nonzero : number.toNat ≠ 0 := fun e => positive (BitVec.eq_of_toNat_eq e)
        have known' : (d.awake st).account number.toNat = some a := by simpa using known
        have failed := (d.awake st).account_modAccount number.toNat
          (fun a => a.failPin d.mgmt.params.pinFailureLimit) fun _ => rfl
        have inactive := Device.credentialCheck_of_inactive (st := st) (pin := pin) known' nonzero
        have other : ∀ (f : Account → Account) (_ : ∀ b, (f b).number = b.number) (m : Nat), m ≠ number.toNat →
            ((d.awake st).modAccount number.toNat f).account m = d.account m := fun f hf m hm =>
          ((d.awake st).account_modAccount_ne _ m f hf hm).trans (by simp)
        refine ⟨fun closed => ?_, fun stopped => ?_, fun active set wrong below => ?_, fun active set wrong atLimit => ?_⟩
        · rw [refused loaded _ _ (inactive.1 closed)]
        · rw [refused loaded _ _ (inactive.2 stopped)]
        · refine ⟨(d.awake st).modAccount number.toNat fun a => a.failPin d.mgmt.params.pinFailureLimit, ?_, rfl, ?_,
            other _ fun _ => rfl⟩
          · rw [refused loaded _ _ (Device.credentialCheck_of_badPin known' nonzero active set wrong)]
            simp [Nat.not_le.mpr below]
          · rw [failed, known']
            simp [Account.failPin, Nat.not_le.mpr below, active]
        · refine ⟨(d.awake st).modAccount number.toNat fun a => a.failPin d.mgmt.params.pinFailureLimit, ?_, rfl, ?_,
            other _ fun _ => rfl⟩
          · rw [refused loaded _ _ (Device.credentialCheck_of_badPin known' nonzero active set wrong)]
            simp [atLimit]
          · rw [failed, known']
            simp [Account.failPin, atLimit]
    · rw [taken (by simp [offline]), d.awake_eq_heard st (by simp [offline]) (by simp [offline])]
      simp [Device.takeKeyin, offline, Device.deny]
    · have hd : (d.ctx st).state ≠ .doze := by rintro e; simp [e] at busy
      rw [taken hd]
      simp only [List.mem_cons, List.not_mem_nil, or_false] at busy
      obtain (s | s | s | s | s | s | s) | ⟨ref, s⟩ := busy <;> simp [Device.takeKeyin, s, Device.deny]

/-! ### CARD -/

/-- R108: the lowest-numbered FREE slot. -/
theorem Device.lowestFree_eq_some {d : Device} {i : SlotNo} (free : (d.slot i).state = .free)
    (lowest : ∀ k, k < i → (d.slot k).state ≠ .free) : d.lowestFree = some i := by
  have sorted : allSlots.Pairwise (· < ·) := by decide
  unfold Device.lowestFree
  have mem := mem_allSlots i
  revert mem sorted
  generalize allSlots = l
  induction l with
  | nil => intro _ mem; cases mem
  | cons k rest ih =>
    intro sorted mem
    obtain ⟨first, sorted⟩ := List.pairwise_cons.mp sorted
    obtain rfl | mem := List.mem_cons.mp mem
    · simp [free]
    · rw [List.find?_cons_of_neg (by simpa using lowest k (first i mem))]
      exact ih sorted mem

section
variable {d : Device} {st : Station} {token : List Byte}

/-- R15, R74: a CARD in IDLE, by its checks. -/
theorem Device.takeCard_of_idle (idle : (d.ctx st).state = .idle) :
    (d.tariffReady = false → d.takeCard st token = d.send st (.cardDeclined .noTariff)) ∧
    (d.tariffReady = true → 2 ≤ d.slotsOwned st → d.takeCard st token = d.send st (.cardDeclined .busy)) ∧
    (d.tariffReady = true → d.slotsOwned st < 2 → ∀ i, d.lowestFree = some i → d.takeCard st token =
      (d.takeSlot i st token).enter st (.funding ((d.takeSlot i st token).slotRef i))) := by
  simp only [Device.takeCard, idle, Device.checkCard, Config.slotsPerStation]
  refine ⟨fun h => by simp [h]; rfl, fun h owned => by simp [h, owned]; rfl, fun h owned i low => ?_⟩
  simp only [h, Nat.not_le.mpr owned, if_true, if_false, low]

/-- R115: a slot that has been taken. -/
theorem Device.slot_takeSlot (i : SlotNo) : (d.takeSlot i st token).slot i = {
    Slot.freed ((d.slot i).generation + 1) with
    state := .authorizing, owner := some st, token := some token, asked := some d.mgmt.params.cardHold
    request := some { kind := .auth, place := .queued, funds := false, amount := 0 } } := by
  simp [Device.takeSlot]

theorem Device.slot_takeSlot_ne {i x : SlotNo} (h : x ≠ i) : (d.takeSlot i st token).slot x = d.slot x := by
  rw [Device.takeSlot, Device.slot_queueRequest_ne _ _ _ _ _ _ h, Device.slot_modSlot_ne _ _ _ _ h]

@[simp] theorem Device.takeSlot_contexts (i : SlotNo) : (d.takeSlot i st token).contexts = d.contexts := rfl
@[simp] theorem Device.takeSlot_ctx (i : SlotNo) (x : Station) : (d.takeSlot i st token).ctx x = d.ctx x := rfl
@[simp] theorem Device.takeSlot_paths (i : SlotNo) : (d.takeSlot i st token).paths = d.paths := rfl
@[simp] theorem Device.takeSlot_path (i : SlotNo) (x : Station) : (d.takeSlot i st token).path x = d.path x := rfl
@[simp] theorem Device.takeSlot_ports (i : SlotNo) : (d.takeSlot i st token).ports = d.ports := rfl
@[simp] theorem Device.takeSlot_port (i : SlotNo) (x : Station) : (d.takeSlot i st token).port x = d.port x := rfl
@[simp] theorem Device.takeSlot_accounts (i : SlotNo) : (d.takeSlot i st token).accounts = d.accounts := rfl
@[simp] theorem Device.takeSlot_tariff (i : SlotNo) : (d.takeSlot i st token).tariff = d.tariff := rfl
@[simp] theorem Device.takeSlot_outstanding (i : SlotNo) : (d.takeSlot i st token).outstanding = d.outstanding := rfl
@[simp] theorem Device.takeSlot_payReports (i : SlotNo) : (d.takeSlot i st token).payReports = d.payReports := rfl
@[simp] theorem Device.takeSlot_reports (i : SlotNo) : (d.takeSlot i st token).reports = d.reports := rfl
@[simp] theorem Device.takeSlot_notices (i : SlotNo) : (d.takeSlot i st token).notices = d.notices := rfl

theorem Device.payQueue_takeSlot (i : SlotNo) : (d.takeSlot i st token).payQueue =
    d.payQueue ++ [{ ref := { slot := i, generation := (d.slot i).generation + 1 }, kind := .auth }] := by
  simp [Device.takeSlot, Device.slotRef, Slot.freed]

end

theorem Device.OthersSame.takeSlot (d : Device) (i : SlotNo) (st : Station) (token : List Byte) :
    d.OthersSame (d.takeSlot i st token) st := .of_eq rfl rfl rfl

theorem Device.slotsOwned_awake (d : Device) (st x : Station) : (d.awake st).slotsOwned x = d.slotsOwned x := by
  simp [Device.slotsOwned]

theorem Device.lowestFree_awake (d : Device) (st : Station) : (d.awake st).lowestFree = d.lowestFree := by
  simp [Device.lowestFree]

/-- Settles O17. -/
theorem cardTakesSlotOrIsDeclined : Obligations.CardTakesSlotOrIsDeclined := by
  intro d q st token h length
  have taken := fun hd => exec_card q h hd token length
  have fromIdle := fun idle => Device.takeCard_of_idle (d := d.awake st) (st := st) (token := token) (by simpa using idle)
  rw [d.tariffReady_awake, d.slotsOwned_awake, d.lowestFree_awake] at fromIdle
  refine ⟨fun i idle loaded owned free lowest => ?_, fun idle empty => ?_, fun idle loaded owned => ?_, fun offline => ?_,
    fun busy => ?_⟩
  · have slot := Device.slot_takeSlot (d := d.awake st) (st := st) (token := token) i
    have ref : ((d.awake st).takeSlot i st token).slotRef i = { slot := i, generation := (d.slot i).generation + 1 } := by
      rw [Device.slotRef, slot]; simp [Slot.freed]
    have steady := ((Device.Steady.awake d st).trans (.takeSlot _ i st token)).trans
      (.enter _ st (.funding (((d.awake st).takeSlot i st token).slotRef i)))
    refine ⟨_, by rw [taken (by simp [idle]), (fromIdle idle).2.2 loaded owned i (Device.lowestFree_eq_some free lowest)],
      ?_, ?_, ?_, ?_, ?_, ?_, fun x hx => ?_, ?_⟩
    · rw [Device.enter_slot, slot]; simp [Slot.freed]
    · rw [Device.enter_payQueue, Device.payQueue_takeSlot]; simp
    · rw [Device.ctx_enter, ref]
      simp [Device.ctx_awake, Context.presented, idle]
    · simp
    · simp
    · exact ((Device.OthersSame.awake d st).trans (.takeSlot _ i st token)).trans (.modCtx _ st _)
    · rw [Device.enter_slot, Device.slot_takeSlot_ne hx, Device.awake_slot]
    · exact ⟨by simp, steady.staleVoids, by simp, ⟨by simp, steady.exporting⟩, steady.setupSame, steady.uplinkSame (by simp),
        by simp, by simp⟩
  · rw [taken (by simp [idle]), (fromIdle idle).1 empty]
  · rw [taken (by simp [idle]), (fromIdle idle).2.1 loaded owned]
  · rw [taken (by simp [offline]), d.awake_eq_heard st (by simp [offline]) (by simp [offline])]
    simp [Device.takeCard, offline, Device.decline]
  · have hd : (d.ctx st).state ≠ .doze := by rintro e; simp [e] at busy
    rw [taken hd]
    simp only [List.mem_cons, List.not_mem_nil, or_false] at busy
    obtain (s | s | s | s | s | s | s) | ⟨ref, s⟩ := busy <;> simp [Device.takeCard, s, Device.decline]

/-! ### The payment unit's word on a pending slot -/

section
variable {d : Device} (q : List Instr) {st : Station} {ref : SlotRef} {rest : List PayReport}

/-- A report of a kind toward a station that is the oldest of all is the one taken. -/
theorem Device.takeReport_of_head {kind : ReportKind} (h : d.payReports = { kind := kind, station := st, ref := ref } :: rest)
    (f : Device → SlotRef → Device) : d.takeReport st kind f = f { d with payReports := rest } ref := by
  simp [Device.takeReport, h, PayReport.isFor]

end

theorem Context.awaitsSlot_iff (c : Context) (ref : SlotRef) : c.awaitsSlot ref = true ↔ c.state = .funding ref := by
  simp [Context.awaitsSlot]

theorem Device.takeApproval_of_funding {d : Device} {st : Station} {ref : SlotRef} (h : (d.ctx st).state = .funding ref) :
    d.takeApproval st ref = (d.send st .cardAccepted).openSession st (.card ref) := by
  rw [Device.takeApproval, if_pos ((Context.awaitsSlot_iff _ _).mpr h)]

theorem Device.takeApproval_of_other {d : Device} {st : Station} {ref : SlotRef} (h : (d.ctx st).state ≠ .funding ref) :
    d.takeApproval st ref = d := by
  rw [Device.takeApproval, if_neg (fun e => h ((Context.awaitsSlot_iff _ _).mp e))]

theorem Device.takeNoApproval_of_funding {d : Device} {st : Station} {ref : SlotRef} (h : (d.ctx st).state = .funding ref)
    (reason : CardReason) : d.takeNoApproval st ref reason = (d.send st (.cardDeclined reason)).enterIdle st := by
  rw [Device.takeNoApproval, if_pos ((Context.awaitsSlot_iff _ _).mpr h)]
  rfl

theorem Device.takeNoApproval_of_other {d : Device} {st : Station} {ref : SlotRef} (h : (d.ctx st).state ≠ .funding ref)
    (reason : CardReason) : d.takeNoApproval st ref reason = d := by
  rw [Device.takeNoApproval, if_neg (fun e => h ((Context.awaitsSlot_iff _ _).mp e))]

/-- Settles O40. -/
theorem authorizationReportsReachTheStation : Obligations.AuthorizationReportsReachTheStation := by
  intro d q st ref rest works taken
  have state : (taken.ctx st).state = (d.ctx st).state := rfl
  refine ⟨fun head => ?_, fun head => ?_, fun head => ?_⟩
  · have run : exec (.authApprovalReport st) ⟨d, q⟩ = .next ⟨taken.takeApproval st ref, q⟩ := by
      refine (State.onDevice_running d q _ works).trans ?_
      rw [Device.takeReport_of_head head]
    refine ⟨fun funding => ⟨_, run.trans (by rw [taken.takeApproval_of_funding funding]), ?_⟩,
      fun other => run.trans (by rw [taken.takeApproval_of_other other])⟩
    have steady : d.Steady ((taken.send st .cardAccepted).openSession st (.card ref)) :=
      ((Device.Steady.quiet (d := d) (t := taken) rfl rfl rfl rfl rfl rfl rfl rfl rfl rfl rfl rfl rfl rfl rfl).trans
        (.send _ st .cardAccepted)).trans (.openSession _ st (.card ref))
    refine ⟨?_, ?_, ?_, ?_, ?_, ?_, ?_, steady.staleVoids, ?_, ?_, ⟨?_, steady.exporting⟩, steady.setupSame,
      steady.uplinkSame ?_⟩
    · rw [Device.ctx_openSession, Device.send_ctx, Device.send_mgmt, Device.send_tariff]; rfl
    · rw [Device.tariff_openSession]; simp [taken]
    · rw [Device.port_openSession, Device.port_send, Device.port_send, Device.port_send]
      rw [Device.remainingOf, Device.send_slot]; rfl
    · simp [taken]
    · simp [taken]
    · simp [taken]
    · simp [taken]
    · simp [taken, Device.path]
    · exact (Device.OthersSame.of_eq (t := taken) rfl rfl rfl).trans
        ((Device.OthersSame.send taken st .cardAccepted).trans (.openSession _ st _))
    · simp [taken]
    · simp [taken]
  · have run : exec (.authDeclineReport st) ⟨d, q⟩ = .next ⟨taken.takeNoApproval st ref .declined, q⟩ := by
      refine (State.onDevice_running d q _ works).trans ?_
      rw [Device.takeReport_of_head head]
    exact ⟨fun funding => run.trans (by rw [Device.takeNoApproval_of_funding (state.trans funding)]),
      fun other => run.trans (by rw [Device.takeNoApproval_of_other (d := taken) other])⟩
  · have run : exec (.authTimeoutReport st) ⟨d, q⟩ = .next ⟨taken.takeNoApproval st ref .timeout, q⟩ := by
      refine (State.onDevice_running d q _ works).trans ?_
      rw [Device.takeReport_of_head head]
    exact ⟨fun funding => run.trans (by rw [Device.takeNoApproval_of_funding (state.trans funding)]),
      fun other => run.trans (by rw [Device.takeNoApproval_of_other (d := taken) other])⟩

end Sys2Proof.Machine
end

section
/-! PROOF. What the payment unit does with a slot that a station gives up: the finalize of a session's slot (R127) and the
abandonment of a pending one (R119), and with it a CARD_OUT in FUNDING (O15). -/

namespace Sys2Proof.Machine

/-! ### One slot's request -/

section
variable {d : Device} {i x : SlotNo}

@[simp] theorem Device.slot_withdrawQueued : (d.withdrawQueued i).slot i = { d.slot i with request := none } :=
  d.slot_modSlot i _

theorem Device.slot_withdrawQueued_ne (h : x ≠ i) : (d.withdrawQueued i).slot x = d.slot x := d.slot_modSlot_ne i x _ h

@[simp] theorem Device.slot_endOutstanding : (d.endOutstanding i).slot i = { d.slot i with request := none } :=
  d.slot_modSlot i _

theorem Device.slot_endOutstanding_ne (h : x ≠ i) : (d.endOutstanding i).slot x = d.slot x := d.slot_modSlot_ne i x _ h

@[simp] theorem Device.slot_lapse : (d.lapse i).slot i = { d.slot i with
    state := .lapsed, token := none, lapseTimer := some (4 * d.mgmt.params.authTimeout) } := d.slot_modSlot i _

theorem Device.slot_lapse_ne (h : x ≠ i) : (d.lapse i).slot x = d.slot x := d.slot_modSlot_ne i x _ h

@[simp] theorem Device.slot_queueFinal (f : FinalRequest) : (d.queueFinal i f).slot i = { d.slot i with
    state := f.slotState, request := some { kind := f.kind, place := .queued, funds := false, amount := f.amount } } := by
  simp [Device.queueFinal]

theorem Device.slot_queueFinal_ne (f : FinalRequest) (h : x ≠ i) : (d.queueFinal i f).slot x = d.slot x := by
  rw [Device.queueFinal, Device.slot_modSlot_ne _ _ _ _ h, Device.slot_queueRequest_ne _ _ _ _ _ _ h]

@[simp] theorem Device.payQueue_queueFinal (f : FinalRequest) :
    (d.queueFinal i f).payQueue = d.payQueue ++ [{ ref := d.slotRef i, kind := f.kind }] := by
  simp [Device.queueFinal]

/-- R110, R127: a final request queued touches the slot and the payment request queue. -/
theorem Device.queueFinal_rest (d : Device) (i : SlotNo) (f : FinalRequest) : d.queueFinal i f =
    { d with slots := (d.queueFinal i f).slots, payQueue := (d.queueFinal i f).payQueue } := rfl

/-- R110: a request withdrawn touches the slot and the payment request queue. -/
theorem Device.withdrawQueued_rest (d : Device) (i : SlotNo) : d.withdrawQueued i =
    { d with slots := (d.withdrawQueued i).slots, payQueue := d.payQueue.filter fun e => e.ref.slot ≠ i } := rfl

theorem Device.outstanding_queueFinal (f : FinalRequest) : (d.queueFinal i f).outstanding = d.outstanding := rfl

theorem Device.payQueue_withdrawQueued :
    (d.withdrawQueued i).payQueue = d.payQueue.filter fun e => e.ref.slot ≠ i := rfl

theorem Device.outstanding_withdrawQueued : (d.withdrawQueued i).outstanding = d.outstanding := rfl

end

/-! ### Finalize -/

section
variable {d : Device} {i x : SlotNo} {consumed : Nat}

theorem finalRequest_zero : finalRequest 0 = .void := rfl

/-- R127: a slot that is ACTIVE or EXPIRED is captured or voided at once. -/
theorem Device.finalizeSlot_of_standing (h : (d.slot i).state = .active ∨ (d.slot i).state = .expired) :
    d.finalizeSlot i consumed = d.queueFinal i (finalRequest consumed) := by
  unfold Device.finalizeSlot
  obtain h | h := h <;> rw [h]

/-- R127: a slot that is RENEWING with its RENEW still queued drops it; with its RENEW outstanding it waits for its end. -/
theorem Device.finalizeSlot_of_renewing (h : (d.slot i).state = .renewing) : d.finalizeSlot i consumed =
    if (d.slot i).awaits .renew then d.modSlot i fun s => { s with
      state := (finalRequest consumed).slotState, finalWaiting := some (finalRequest consumed) }
    else (d.withdrawQueued i).queueFinal i (finalRequest consumed) := by
  unfold Device.finalizeSlot
  rw [h]

/-- R127: a finalize touches one slot and the payment request queue. -/
theorem Device.finalizeSlot_rest (d : Device) (i : SlotNo) (consumed : Nat) : d.finalizeSlot i consumed =
    { d with slots := (d.finalizeSlot i consumed).slots, payQueue := (d.finalizeSlot i consumed).payQueue } := by
  unfold Device.finalizeSlot
  simp only
  split
  · rfl
  · rfl
  · split
    · rfl
    · rw [Device.queueFinal_rest, Device.withdrawQueued_rest]
  · rfl

theorem Device.slot_finalizeSlot_ne (h : x ≠ i) : (d.finalizeSlot i consumed).slot x = d.slot x := by
  unfold Device.finalizeSlot
  simp only
  split
  · exact Device.slot_queueFinal_ne _ h
  · exact Device.slot_queueFinal_ne _ h
  · split
    · exact d.slot_modSlot_ne i x _ h
    · exact (Device.slot_queueFinal_ne _ h).trans (Device.slot_withdrawQueued_ne h)
  · rfl

end

@[simp] theorem Device.finalizeSlot_carrierDetect (d : Device) (i : SlotNo) (consumed : Nat) : (d.finalizeSlot i consumed).carrierDetect = d.carrierDetect := (congrArg Device.carrierDetect (d.finalizeSlot_rest i consumed) :)
@[simp] theorem Device.finalizeSlot_uplinkDetect (d : Device) (i : SlotNo) (consumed : Nat) : (d.finalizeSlot i consumed).uplinkDetect = d.uplinkDetect := (congrArg Device.uplinkDetect (d.finalizeSlot_rest i consumed) :)
@[simp] theorem Device.finalizeSlot_resetAsserted (d : Device) (i : SlotNo) (consumed : Nat) : (d.finalizeSlot i consumed).resetAsserted = d.resetAsserted := (congrArg Device.resetAsserted (d.finalizeSlot_rest i consumed) :)
@[simp] theorem Device.finalizeSlot_contexts (d : Device) (i : SlotNo) (consumed : Nat) : (d.finalizeSlot i consumed).contexts = d.contexts := (congrArg Device.contexts (d.finalizeSlot_rest i consumed) :)
@[simp] theorem Device.finalizeSlot_ctx (d : Device) (i : SlotNo) (consumed : Nat) (x : Station) : (d.finalizeSlot i consumed).ctx x = d.ctx x := (congrArg (Device.ctx · x) (d.finalizeSlot_rest i consumed) :)
@[simp] theorem Device.finalizeSlot_paths (d : Device) (i : SlotNo) (consumed : Nat) : (d.finalizeSlot i consumed).paths = d.paths := (congrArg Device.paths (d.finalizeSlot_rest i consumed) :)
@[simp] theorem Device.finalizeSlot_path (d : Device) (i : SlotNo) (consumed : Nat) (x : Station) : (d.finalizeSlot i consumed).path x = d.path x := (congrArg (Device.path · x) (d.finalizeSlot_rest i consumed) :)
@[simp] theorem Device.finalizeSlot_ports (d : Device) (i : SlotNo) (consumed : Nat) : (d.finalizeSlot i consumed).ports = d.ports := (congrArg Device.ports (d.finalizeSlot_rest i consumed) :)
@[simp] theorem Device.finalizeSlot_port (d : Device) (i : SlotNo) (consumed : Nat) (x : Station) : (d.finalizeSlot i consumed).port x = d.port x := (congrArg (Device.port · x) (d.finalizeSlot_rest i consumed) :)
@[simp] theorem Device.finalizeSlot_configs (d : Device) (i : SlotNo) (consumed : Nat) : (d.finalizeSlot i consumed).configs = d.configs := (congrArg Device.configs (d.finalizeSlot_rest i consumed) :)
@[simp] theorem Device.finalizeSlot_serviceUp (d : Device) (i : SlotNo) (consumed : Nat) : (d.finalizeSlot i consumed).serviceUp = d.serviceUp := (congrArg Device.serviceUp (d.finalizeSlot_rest i consumed) :)
@[simp] theorem Device.finalizeSlot_tariff (d : Device) (i : SlotNo) (consumed : Nat) : (d.finalizeSlot i consumed).tariff = d.tariff := (congrArg Device.tariff (d.finalizeSlot_rest i consumed) :)
@[simp] theorem Device.finalizeSlot_accounts (d : Device) (i : SlotNo) (consumed : Nat) : (d.finalizeSlot i consumed).accounts = d.accounts := (congrArg Device.accounts (d.finalizeSlot_rest i consumed) :)
@[simp] theorem Device.finalizeSlot_account (d : Device) (i : SlotNo) (consumed : Nat) (x : Nat) : (d.finalizeSlot i consumed).account x = d.account x := (congrArg (Device.account · x) (d.finalizeSlot_rest i consumed) :)
@[simp] theorem Device.finalizeSlot_exporting (d : Device) (i : SlotNo) (consumed : Nat) : (d.finalizeSlot i consumed).exporting = d.exporting := (congrArg Device.exporting (d.finalizeSlot_rest i consumed) :)
@[simp] theorem Device.finalizeSlot_outstanding (d : Device) (i : SlotNo) (consumed : Nat) : (d.finalizeSlot i consumed).outstanding = d.outstanding := (congrArg Device.outstanding (d.finalizeSlot_rest i consumed) :)
@[simp] theorem Device.finalizeSlot_staleVoids (d : Device) (i : SlotNo) (consumed : Nat) : (d.finalizeSlot i consumed).staleVoids = d.staleVoids := (congrArg Device.staleVoids (d.finalizeSlot_rest i consumed) :)
@[simp] theorem Device.finalizeSlot_payReports (d : Device) (i : SlotNo) (consumed : Nat) : (d.finalizeSlot i consumed).payReports = d.payReports := (congrArg Device.payReports (d.finalizeSlot_rest i consumed) :)
@[simp] theorem Device.finalizeSlot_reports (d : Device) (i : SlotNo) (consumed : Nat) : (d.finalizeSlot i consumed).reports = d.reports := (congrArg Device.reports (d.finalizeSlot_rest i consumed) :)
@[simp] theorem Device.finalizeSlot_notices (d : Device) (i : SlotNo) (consumed : Nat) : (d.finalizeSlot i consumed).notices = d.notices := (congrArg Device.notices (d.finalizeSlot_rest i consumed) :)
@[simp] theorem Device.finalizeSlot_mgmt (d : Device) (i : SlotNo) (consumed : Nat) : (d.finalizeSlot i consumed).mgmt = d.mgmt := (congrArg Device.mgmt (d.finalizeSlot_rest i consumed) :)
@[simp] theorem Device.finalizeSlot_uplink (d : Device) (i : SlotNo) (consumed : Nat) : (d.finalizeSlot i consumed).uplink = d.uplink := (congrArg Device.uplink (d.finalizeSlot_rest i consumed) :)
@[simp] theorem Device.finalizeSlot_freeCount (d : Device) (i : SlotNo) (consumed : Nat) : (d.finalizeSlot i consumed).freeCount = d.freeCount := (congrArg Device.freeCount (d.finalizeSlot_rest i consumed) :)

/-! ### Abandonment -/

/-- R119: an abandonment touches one slot, the payment request queue and the outstanding count. -/
theorem Device.abandonSlot_rest (d : Device) (ref : SlotRef) : d.abandonSlot ref =
    { d with slots := (d.abandonSlot ref).slots, payQueue := (d.abandonSlot ref).payQueue
             outstanding := (d.abandonSlot ref).outstanding } := by
  unfold Device.abandonSlot
  simp only
  split
  · rfl
  · split
    · split <;> rfl
    · rw [Device.finalizeSlot_rest]
    · rw [Device.finalizeSlot_rest]
    · rw [Device.finalizeSlot_rest]
    · rfl

@[simp] theorem Device.abandonSlot_carrierDetect (d : Device) (ref : SlotRef) : (d.abandonSlot ref).carrierDetect = d.carrierDetect := (congrArg Device.carrierDetect (d.abandonSlot_rest ref) :)
@[simp] theorem Device.abandonSlot_uplinkDetect (d : Device) (ref : SlotRef) : (d.abandonSlot ref).uplinkDetect = d.uplinkDetect := (congrArg Device.uplinkDetect (d.abandonSlot_rest ref) :)
@[simp] theorem Device.abandonSlot_resetAsserted (d : Device) (ref : SlotRef) : (d.abandonSlot ref).resetAsserted = d.resetAsserted := (congrArg Device.resetAsserted (d.abandonSlot_rest ref) :)
@[simp] theorem Device.abandonSlot_contexts (d : Device) (ref : SlotRef) : (d.abandonSlot ref).contexts = d.contexts := (congrArg Device.contexts (d.abandonSlot_rest ref) :)
@[simp] theorem Device.abandonSlot_ctx (d : Device) (ref : SlotRef) (x : Station) : (d.abandonSlot ref).ctx x = d.ctx x := (congrArg (Device.ctx · x) (d.abandonSlot_rest ref) :)
@[simp] theorem Device.abandonSlot_paths (d : Device) (ref : SlotRef) : (d.abandonSlot ref).paths = d.paths := (congrArg Device.paths (d.abandonSlot_rest ref) :)
@[simp] theorem Device.abandonSlot_path (d : Device) (ref : SlotRef) (x : Station) : (d.abandonSlot ref).path x = d.path x := (congrArg (Device.path · x) (d.abandonSlot_rest ref) :)
@[simp] theorem Device.abandonSlot_ports (d : Device) (ref : SlotRef) : (d.abandonSlot ref).ports = d.ports := (congrArg Device.ports (d.abandonSlot_rest ref) :)
@[simp] theorem Device.abandonSlot_port (d : Device) (ref : SlotRef) (x : Station) : (d.abandonSlot ref).port x = d.port x := (congrArg (Device.port · x) (d.abandonSlot_rest ref) :)
@[simp] theorem Device.abandonSlot_configs (d : Device) (ref : SlotRef) : (d.abandonSlot ref).configs = d.configs := (congrArg Device.configs (d.abandonSlot_rest ref) :)
@[simp] theorem Device.abandonSlot_serviceUp (d : Device) (ref : SlotRef) : (d.abandonSlot ref).serviceUp = d.serviceUp := (congrArg Device.serviceUp (d.abandonSlot_rest ref) :)
@[simp] theorem Device.abandonSlot_tariff (d : Device) (ref : SlotRef) : (d.abandonSlot ref).tariff = d.tariff := (congrArg Device.tariff (d.abandonSlot_rest ref) :)
@[simp] theorem Device.abandonSlot_accounts (d : Device) (ref : SlotRef) : (d.abandonSlot ref).accounts = d.accounts := (congrArg Device.accounts (d.abandonSlot_rest ref) :)
@[simp] theorem Device.abandonSlot_account (d : Device) (ref : SlotRef) (x : Nat) : (d.abandonSlot ref).account x = d.account x := (congrArg (Device.account · x) (d.abandonSlot_rest ref) :)
@[simp] theorem Device.abandonSlot_exporting (d : Device) (ref : SlotRef) : (d.abandonSlot ref).exporting = d.exporting := (congrArg Device.exporting (d.abandonSlot_rest ref) :)
@[simp] theorem Device.abandonSlot_staleVoids (d : Device) (ref : SlotRef) : (d.abandonSlot ref).staleVoids = d.staleVoids := (congrArg Device.staleVoids (d.abandonSlot_rest ref) :)
@[simp] theorem Device.abandonSlot_payReports (d : Device) (ref : SlotRef) : (d.abandonSlot ref).payReports = d.payReports := (congrArg Device.payReports (d.abandonSlot_rest ref) :)
@[simp] theorem Device.abandonSlot_reports (d : Device) (ref : SlotRef) : (d.abandonSlot ref).reports = d.reports := (congrArg Device.reports (d.abandonSlot_rest ref) :)
@[simp] theorem Device.abandonSlot_notices (d : Device) (ref : SlotRef) : (d.abandonSlot ref).notices = d.notices := (congrArg Device.notices (d.abandonSlot_rest ref) :)
@[simp] theorem Device.abandonSlot_mgmt (d : Device) (ref : SlotRef) : (d.abandonSlot ref).mgmt = d.mgmt := (congrArg Device.mgmt (d.abandonSlot_rest ref) :)
@[simp] theorem Device.abandonSlot_uplink (d : Device) (ref : SlotRef) : (d.abandonSlot ref).uplink = d.uplink := (congrArg Device.uplink (d.abandonSlot_rest ref) :)
@[simp] theorem Device.abandonSlot_freeCount (d : Device) (ref : SlotRef) : (d.abandonSlot ref).freeCount = d.freeCount := (congrArg Device.freeCount (d.abandonSlot_rest ref) :)

theorem Device.slot_abandonSlot_ne {d : Device} {ref : SlotRef} {x : SlotNo} (h : x ≠ ref.slot) :
    (d.abandonSlot ref).slot x = d.slot x := by
  unfold Device.abandonSlot
  simp only
  split
  · rfl
  · split
    · split
      · exact (Device.slot_lapse_ne h).trans (Device.slot_endOutstanding_ne h)
      · exact (Device.slot_lapse_ne h).trans (Device.slot_withdrawQueued_ne h)
    · exact Device.slot_finalizeSlot_ne h
    · exact Device.slot_finalizeSlot_ne h
    · exact Device.slot_finalizeSlot_ne h
    · rfl

section
variable {d : Device} {ref : SlotRef}

/-- R119: a slot that has been taken again since, or has no authorization any more, is left alone. -/
theorem Device.abandonSlot_of_gone
    (h : (d.slot ref.slot).generation ≠ ref.generation ∨ (d.slot ref.slot).state = .lapsed ∨ (d.slot ref.slot).state = .free) :
    d.abandonSlot ref = d := by
  unfold Device.abandonSlot
  simp only
  split
  · rfl
  · rename_i same
    obtain h | h | h := h
    · exact absurd h same
    · rw [h]
    · rw [h]

/-- R119: a slot in AUTHORIZING is LAPSED, its AUTH withdrawn or abandoned. -/
theorem Device.abandonSlot_of_authorizing (same : (d.slot ref.slot).generation = ref.generation)
    (state : (d.slot ref.slot).state = .authorizing) : d.abandonSlot ref =
      if (d.slot ref.slot).awaits .auth then (d.endOutstanding ref.slot).lapse ref.slot
      else (d.withdrawQueued ref.slot).lapse ref.slot := by
  simp only [Device.abandonSlot, same, state, ne_eq, not_true_eq_false, if_false]

/-- R119, R127: an approved slot is finalized with nothing consumed. -/
theorem Device.abandonSlot_of_approved (same : (d.slot ref.slot).generation = ref.generation)
    (state : (d.slot ref.slot).state = .active ∨ (d.slot ref.slot).state = .renewing ∨ (d.slot ref.slot).state = .expired) :
    d.abandonSlot ref = d.finalizeSlot ref.slot 0 := by
  unfold Device.abandonSlot
  simp only [same, ne_eq, not_true_eq_false, if_false]
  obtain h | h | h := state <;> rw [h]

theorem Device.slotRef_of_same (same : (d.slot ref.slot).generation = ref.generation) : d.slotRef ref.slot = ref := by
  rw [Device.slotRef, same]

/-- R119: what an abandonment does, by the state of the slot and of its request. -/
theorem Device.abandonSlot_slotAbandoned (d : Device) (ref : SlotRef) : d.SlotAbandoned (d.abandonSlot ref) ref where
  left gone := by rw [Device.abandonSlot_of_gone gone]; exact ⟨rfl, rfl, rfl⟩
  withdrawn f a same state request := by
    rw [Device.abandonSlot_of_authorizing same state, if_neg (by simp [Slot.awaits, request])]
    exact ⟨by simp; rfl, rfl, rfl⟩
  abandoned n f a same state request := by
    rw [Device.abandonSlot_of_authorizing same state, if_pos (by simp [Slot.awaits, request])]
    exact ⟨by simp; rfl, rfl, rfl⟩
  voided same state := by
    rw [Device.abandonSlot_of_approved same (state.imp_right .inr), Device.finalizeSlot_of_standing state, finalRequest_zero,
      Device.payQueue_queueFinal, Device.slotRef_of_same same]
    exact ⟨by simp; exact ⟨rfl, rfl, rfl⟩, rfl, rfl⟩
  renewalWithdrawn f a same state request := by
    rw [Device.abandonSlot_of_approved same (.inr (.inl state)), Device.finalizeSlot_of_renewing state,
      if_neg (by simp [Slot.awaits, request]), finalRequest_zero, Device.payQueue_queueFinal,
      Device.slotRef_of_same (by simpa using same), Device.outstanding_queueFinal, Device.outstanding_withdrawQueued,
      Device.payQueue_withdrawQueued]
    exact ⟨by simp; exact ⟨rfl, rfl, rfl⟩, rfl, rfl⟩
  renewalAwaited n f a same state request := by
    rw [Device.abandonSlot_of_approved same (.inr (.inl state)), Device.finalizeSlot_of_renewing state,
      if_pos (by simp [Slot.awaits, request]), finalRequest_zero]
    exact ⟨by simp; rfl, rfl, rfl⟩
  others _ h := Device.slot_abandonSlot_ne h
  rest := ⟨by simp, by simp⟩

/-- What an abandonment does is a matter of the payment unit and of the authorization timeout alone. -/
theorem Device.SlotAbandoned.congr {d d' t t' : Device} (h : d.SlotAbandoned t ref) (before : d.PaymentsSame d')
    (params : d'.mgmt.params = d.mgmt.params) (after : t.PaymentsSame t') : d'.SlotAbandoned t' ref := by
  obtain ⟨s, p, o, v, r⟩ := before
  obtain ⟨s', p', o', v', r'⟩ := after
  obtain ⟨left, withdrawn, abandoned, voided, renewalWithdrawn, renewalAwaited, others, rest⟩ := h
  simp only [Device.slot] at *
  constructor <;> simp only [Device.slot, s, p, o, v, r, s', p', o', v', r', params] <;> assumption

end

namespace Device.OthersSame

variable (d : Device) (st : Station)

theorem heard : d.OthersSame (d.heard st) st := .modPort d st _

theorem abandonSlot (ref : SlotRef) : d.OthersSame (d.abandonSlot ref) st :=
  .of_eq (by simp) (by simp) (by simp)

end Device.OthersSame

/-- Settles O15. -/
theorem cardOutAbandonsAuthorization : Obligations.CardOutAbandonsAuthorization := by
  intro d q st ref h funding
  have taken : (d.heard st).takeCardOut st = ((d.heard st).abandonSlot ref).enterIdle st := by
    rw [Device.takeCardOut, Device.heard_ctx, funding]
  have steady : d.Steady (((d.heard st).abandonSlot ref).enterIdle st) :=
    ((Device.Steady.heard d st).trans (.abandonSlot _ ref)).trans (.enterIdle _ st)
  refine ⟨_, by rw [exec_cardOut q h (by simp [funding]), d.awake_eq_heard st (by simp [funding]) (by simp [funding]), taken],
    by simp, by simp, ?_, ?_, ⟨?_, steady.exporting⟩, steady.setupSame, steady.uplinkSame ?_, ?_, ?_⟩
  · exact ((d.heard st).abandonSlot_slotAbandoned ref).congr ⟨rfl, rfl, rfl, rfl, rfl⟩ rfl ⟨rfl, rfl, rfl, rfl, rfl⟩
  · exact ((Device.OthersSame.heard d st).trans (.abandonSlot _ st ref)).trans (.enterIdle _ st)
  all_goals simp

end Sys2Proof.Machine
end

section
/-! PROOF. The account table's part in the end of a job or session: its entries, its messages toward the contexts, and the service
of a waiting list (R93, R94, R96). -/

namespace Sys2Proof.Machine

/-! ### A context without its messages -/

/-- A context without the messages under way between it and the account table. -/
def Context.muted (c : Context) : Context := { c with refillAsked := none, accountMail := [] }

namespace Context

variable {c k : Context}

/-- Two contexts that agree but for the messages of the account table. -/
theorem eq_but_mail (h : c.muted = k.muted) (asked : c.refillAsked = k.refillAsked) :
    c = { k with accountMail := c.accountMail } := by
  have whole : c = { c.muted with refillAsked := c.refillAsked, accountMail := c.accountMail } := rfl
  rw [h, asked] at whole
  exact whole

end Context

/-! ### What the account table touches -/

/-- What a request of station `st` does at the account table: entries change, and messages join those under way to contexts; a
refill that `st` has asked may be taken. -/
structure Device.TableActs (d t : Device) (st : Station) : Prop where
  rest : t = { d with accounts := t.accounts, contexts := t.contexts }
  muted : ∀ x, (t.ctx x).muted = (d.ctx x).muted
  asked : ∀ x, x ≠ st ∨ (d.ctx st).refillAsked = none → (t.ctx x).refillAsked = (d.ctx x).refillAsked

namespace Device.TableActs

variable {d t u : Device} {st : Station}

theorem paths (h : d.TableActs t st) : t.paths = d.paths := (congrArg Device.paths h.rest :)
theorem path (h : d.TableActs t st) (x : Station) : t.path x = d.path x := (congrArg (Device.path · x) h.rest :)
theorem ports (h : d.TableActs t st) : t.ports = d.ports := (congrArg Device.ports h.rest :)
theorem port (h : d.TableActs t st) (x : Station) : t.port x = d.port x := (congrArg (Device.port · x) h.rest :)
theorem tariff (h : d.TableActs t st) : t.tariff = d.tariff := (congrArg Device.tariff h.rest :)
theorem slots (h : d.TableActs t st) : t.slots = d.slots := (congrArg Device.slots h.rest :)
theorem slot (h : d.TableActs t st) (x : SlotNo) : t.slot x = d.slot x := (congrArg (Device.slot · x) h.rest :)
theorem payQueue (h : d.TableActs t st) : t.payQueue = d.payQueue := (congrArg Device.payQueue h.rest :)
theorem outstanding (h : d.TableActs t st) : t.outstanding = d.outstanding := (congrArg Device.outstanding h.rest :)
theorem payReports (h : d.TableActs t st) : t.payReports = d.payReports := (congrArg Device.payReports h.rest :)
theorem reports (h : d.TableActs t st) : t.reports = d.reports := (congrArg Device.reports h.rest :)
theorem notices (h : d.TableActs t st) : t.notices = d.notices := (congrArg Device.notices h.rest :)
theorem mgmt (h : d.TableActs t st) : t.mgmt = d.mgmt := (congrArg Device.mgmt h.rest :)

theorem refl (d : Device) (st : Station) : d.TableActs d st := ⟨rfl, fun _ => rfl, fun _ _ => rfl⟩

theorem trans (h : d.TableActs t st) (k : t.TableActs u st) : d.TableActs u st := by
  refine ⟨?_, fun x => (k.muted x).trans (h.muted x), fun x hx => ?_⟩
  · have := k.rest
    rw [h.rest] at this
    exact this
  · refine (k.asked x (hx.imp_right fun e => ?_)).trans (h.asked x hx)
    exact (h.asked st (.inr e)).trans e

theorem modAccount (d : Device) (st : Station) (n : Nat) (f : Account → Account) : d.TableActs (d.modAccount n f) st :=
  ⟨rfl, fun _ => rfl, fun _ _ => rfl⟩

theorem mail (d : Device) (st dest : Station) (m : AccountMail) : d.TableActs (d.mail dest m) st := by
  refine ⟨rfl, fun x => ?_, fun x _ => ?_⟩ <;> by_cases e : x = dest
  · subst e; rw [Device.mail, Device.ctx_modCtx]; rfl
  · rw [Device.mail, Device.ctx_modCtx_ne _ _ _ _ e]
  · subst e; rw [Device.mail, Device.ctx_modCtx]
  · rw [Device.mail, Device.ctx_modCtx_ne _ _ _ _ e]

theorem mailGrants (d : Device) (st : Station) (n : Nat) (grants : List (Station × Nat)) :
    d.TableActs (d.mailGrants n grants) st := by
  unfold Device.mailGrants
  induction grants generalizing d with
  | nil => exact refl d st
  | cons g rest ih => exact (mail d st g.1 _).trans (ih _)

theorem serveIf (d : Device) (st : Station) (due : Bool) (n : Nat) : d.TableActs (d.serveIf due n) st := by
  unfold Device.serveIf Device.serve
  split
  · split
    · exact refl d st
    · split
      · exact (modAccount d st n _).trans (mailGrants _ st n _)
      · exact refl d st
  · exact refl d st

/-- R91: a refill that has been asked is taken off the station's context. -/
theorem clearAsked (d : Device) (st : Station) {ask : RefillAsk} (h : (d.ctx st).refillAsked = some ask) :
    d.TableActs (d.modCtx st fun c => { c with refillAsked := none }) st := by
  refine ⟨rfl, fun x => ?_, fun x hx => ?_⟩
  · by_cases e : x = st
    · subst e; rw [Device.ctx_modCtx]; rfl
    · rw [Device.ctx_modCtx_ne _ _ _ _ e]
  · rw [Device.ctx_modCtx_ne _ _ _ _ (hx.resolve_right (by simp [h]))]

theorem takeRefill (d : Device) (st : Station) : d.TableActs (d.takeRefill st) st := by
  unfold Device.takeRefill
  split
  · exact refl d st
  · rename_i ask h
    simp only
    refine (clearAsked d st h).trans ?_
    split
    · exact mail _ st st _
    · split
      · exact mail _ st st _
      · split
        · exact (modAccount _ st _ _).trans (mail _ st st _)
        · exact (modAccount _ st _ _).trans (mail _ st st _)

theorem leaveWaiting (d : Device) (st : Station) (n : Nat) : d.TableActs (d.leaveWaiting st n) st :=
  (takeRefill d st).trans (modAccount _ st n _)

theorem jobEndRelease (d : Device) (st : Station) (n draw : Nat) : d.TableActs (d.jobEndRelease st n draw) st :=
  ((leaveWaiting d st n).trans (modAccount _ st n _)).trans (serveIf _ st _ n)

theorem sessionRelease (d : Device) (st : Station) (n draw : Nat) : d.TableActs (d.sessionRelease st n draw) st :=
  ((takeRefill d st).trans (modAccount _ st n _)).trans (serveIf _ st _ n)

theorem releaseDraw (d : Device) (st : Station) (draw : Nat) : d.TableActs (d.releaseDraw st draw) st := by
  unfold Device.releaseDraw
  split
  · exact jobEndRelease d st _ draw
  · exact refl d st

/-- A context after the account table's part: its messages apart, it is the same. -/
theorem ctx (h : d.TableActs t st) (x : Station) : t.ctx x = { d.ctx x with
    refillAsked := (t.ctx x).refillAsked, accountMail := (t.ctx x).accountMail } := by
  have whole : t.ctx x = { (t.ctx x).muted with
    refillAsked := (t.ctx x).refillAsked, accountMail := (t.ctx x).accountMail } := rfl
  rw [h.muted x] at whole
  exact whole

/-- The other stations see no more of the account table than its messages. -/
theorem othersSameButMail (h : d.TableActs t st) : d.OthersSameButMail t st := fun x hx =>
  ⟨Context.eq_but_mail (h.muted x) (h.asked x (.inl hx)), h.path x, h.port x⟩

end Device.TableActs

/-! ### Refills that are not under way -/

section
variable {d : Device} {st : Station} {n : Nat} (h : (d.ctx st).refillAsked = none)
include h

theorem Device.takeRefill_of_none : d.takeRefill st = d := by rw [Device.takeRefill, h]

theorem Device.leaveWaiting_of_none : d.leaveWaiting st n = d.modAccount n fun a => a.dropWaiter st := by
  rw [Device.leaveWaiting, Device.takeRefill_of_none h]

theorem Device.commitAccount_of_none (price sides : Nat) (cls : PriceClass) :
    d.commitAccount st n price sides cls = d.modAccount n fun a =>
      { a with draws := a.draws - price, spent := a.spent + price, live := a.live.addSheet cls sides price } := by
  rw [Device.commitAccount, Device.takeRefill_of_none h]

theorem Device.jobEndRelease_of_none (draw : Nat) : d.jobEndRelease st n draw =
    ((d.modAccount n fun a => a.dropWaiter st).modAccount n fun a => { a with draws := a.draws - draw }).serveIf
      (0 < draw) n := by
  rw [Device.jobEndRelease, Device.leaveWaiting_of_none h]

theorem Device.sessionRelease_of_none (draw : Nat) : d.sessionRelease st n draw =
    (d.modAccount n fun a =>
      { a.dropWaiter st with openSessions := a.openSessions - 1, draws := a.draws - draw }).serveIf (0 < draw) n := by
  rw [Device.sessionRelease, Device.takeRefill_of_none h]

end

/-! ### The service of a waiting list -/

theorem Device.accountMail_mail (d : Device) (dest x : Station) (m : AccountMail) :
    ((d.mail dest m).ctx x).accountMail = (d.ctx x).accountMail ++ if dest = x then [m] else [] := by
  by_cases e : x = dest
  · subst e; rw [Device.mail, Device.ctx_modCtx, if_pos rfl]
  · rw [Device.mail, Device.ctx_modCtx_ne _ _ _ _ e, if_neg (Ne.symm e), List.append_nil]

/-- R86: each station served is sent its grants, in the order of the list. -/
theorem Device.accountMail_mailGrants (d : Device) (n : Nat) (grants : List (Station × Nat)) (x : Station) :
    ((d.mailGrants n grants).ctx x).accountMail = (d.ctx x).accountMail ++
      (grants.filter fun g => g.1 = x).map fun g => AccountMail.grant n g.2 := by
  unfold Device.mailGrants
  induction grants generalizing d with
  | nil => simp
  | cons g rest ih =>
    rw [List.foldl_cons, ih, Device.accountMail_mail]
    by_cases e : g.1 = x <;> simp [e]

theorem Device.accounts_mailGrants (d : Device) (n : Nat) (grants : List (Station × Nat)) :
    (d.mailGrants n grants).accounts = d.accounts := by
  unfold Device.mailGrants
  induction grants generalizing d with
  | nil => rfl
  | cons g rest ih => rw [List.foldl_cons, ih]; rfl

theorem Device.account_of_accounts {d t : Device} (h : t.accounts = d.accounts) (m : Nat) : t.account m = d.account m :=
  congrArg (findAccount m) h

/-- R93: what the service of an account's list leaves. -/
theorem Device.serveIf_listServed {d : Device} {n : Nat} {a : Account} (known : d.account n = some a) (due : Bool) :
    ∃ b, d.ListServed (d.serveIf due n) n a b (due = true) := by
  by_cases served : due = true ∧ a.state = .active
  · obtain ⟨isDue, active⟩ := served
    let r := serveList d.mgmt.params.drawSize a.available a.waiting
    have step : d.serveIf due n = (d.modAccount n fun a =>
        { a with draws := a.draws + sumDraws r.1, waiting := r.2 }).mailGrants n r.1 := by
      simp [Device.serveIf, isDue, Device.serve, known, active, r]
    have entry := d.account_modAccount n (fun a => { a with draws := a.draws + sumDraws r.1, waiting := r.2 }) fun _ => rfl
    rw [step]
    refine ⟨{ a with draws := a.draws + sumDraws r.1, waiting := r.2 }, ?_, fun m hm => ?_, r.1, fun _ => ?_, fun e => ?_,
      rfl, fun x => ?_⟩
    · rw [Device.account_of_accounts (Device.accounts_mailGrants _ _ _), entry, known]
      rfl
    · rw [Device.account_of_accounts (Device.accounts_mailGrants _ _ _)]
      exact d.account_modAccount_ne n m _ (fun _ => rfl) hm
    · exact serveList_serves _ _ _
    · exact absurd ⟨isDue, active⟩ e
    · exact Device.accountMail_mailGrants _ _ _ _
  · have step : d.serveIf due n = d := by
      unfold Device.serveIf Device.serve
      split
      · rename_i isDue
        rw [known]
        exact if_neg fun active => served ⟨isDue, active⟩
      · rfl
    rw [step]
    exact ⟨a, known, fun _ _ => rfl, [], fun e => absurd e served, fun _ => ⟨rfl, rfl⟩, rfl, fun x => by simp⟩

/-- R93: what a service leaves of a list was on it. -/
theorem Serves.left_subset {drawSize available : Nat} {l : List WaitItem} {grants : List (Station × Nat)}
    {left : List WaitItem} (h : Serves drawSize available l grants left) : left ⊆ l := by
  induction l generalizing available grants with
  | nil => rw [h.2]; exact List.Subset.refl _
  | cons w rest ih =>
    obtain ⟨-, -, rfl⟩ | ⟨-, more, -, served⟩ := h
    · exact List.Subset.refl _
    · exact List.Subset.trans (ih served) (List.subset_cons_self w rest)

namespace Device.ListServed

variable {d e t u : Device} {n : Nat} {a b : Account} {due : Prop}

theorem waiting_subset (h : d.ListServed t n a b due) : b.waiting ⊆ a.waiting := by
  obtain ⟨grants, served, unserved, -, -⟩ := h.served
  by_cases k : due ∧ a.state = .active
  · exact (served k).left_subset
  · rw [(unserved k).2]; exact List.Subset.refl _

/-- What a service does is a matter of the other entries, the draw size and the messages under way before it. -/
theorem of_before (h : d.ListServed t n a b due) (others : ∀ m, m ≠ n → d.account m = e.account m) (mgmt : d.mgmt = e.mgmt)
    (mail : ∀ x, (d.ctx x).accountMail = (e.ctx x).accountMail) : e.ListServed t n a b due := by
  obtain ⟨grants, served, unserved, entry, sent⟩ := h.served
  refine ⟨h.entry, fun m hm => (h.others m hm).trans (others m hm), grants, ?_, unserved, entry, fun x => ?_⟩
  · rw [← mgmt]; exact served
  · rw [← mail x]; exact sent x

/-- What a service does is a matter of the entries and the messages under way after it. -/
theorem of_after (h : d.ListServed t n a b due) (accounts : ∀ m, u.account m = t.account m)
    (mail : ∀ x, (u.ctx x).accountMail = (t.ctx x).accountMail) : d.ListServed u n a b due := by
  obtain ⟨grants, served, unserved, entry, sent⟩ := h.served
  exact ⟨(accounts n).trans h.entry, fun m hm => (accounts m).trans (h.others m hm), grants, served, unserved, entry,
    fun x => (mail x).trans (sent x)⟩

/-- A service leaves the count of open sessions alone. -/
theorem of_closed (h : d.ListServed t n a b due) (entry : u.account n = some { b with openSessions := a.openSessions - 1 })
    (others : ∀ m, m ≠ n → u.account m = t.account m) (mail : ∀ x, (u.ctx x).accountMail = (t.ctx x).accountMail) :
    d.ListServed u n { a with openSessions := a.openSessions - 1 } { b with openSessions := a.openSessions - 1 } due := by
  obtain ⟨grants, served, unserved, kept, sent⟩ := h.served
  refine ⟨entry, fun m hm => (others m hm).trans (h.others m hm), grants, served, unserved, ?_, fun x => (mail x).trans (sent x)⟩
  rw [kept]

theorem openSessions (h : d.ListServed t n a b due) : b.openSessions = a.openSessions := by
  obtain ⟨_, -, -, kept, -⟩ := h.served
  rw [kept]

theorem state (h : d.ListServed t n a b due) : b.state = a.state := by
  obtain ⟨_, -, -, kept, -⟩ := h.served
  rw [kept]

end Device.ListServed

end Sys2Proof.Machine
end

section
/-! PROOF. Sheets that leave a path list (R42, R43, R54, R66, R67): what each does to the session, the job, the meters and the
funding source, and what the resolution of a whole path list comes to. -/

namespace Sys2Proof.Machine

/-! ### The records of a resolved sheet -/

/-- R3, R42, R43, R67: a resolved sheet in the session record. -/
def Session.resolve (p : JamPolicy) (s : Session) (e : PathEntry) : Session :=
  match p with
  | .charge => if e.funded then s.commit e else s.addShortfall e
  | .forgive => { s with forgiven := s.forgiven + 1 }

/-- The funding is an account. -/
def Funding.isAccount : Funding → Bool
  | .account _ => true
  | .card _ => false

/-- R37, R42, R67: a resolved sheet in the job record; an account session's charge leaves the job's draw. -/
def Job.resolve (account : Bool) (p : JamPolicy) (j : Job) (e : PathEntry) : Job :=
  match p with
  | .charge => Job.deliver (if account && e.funded then { j with draw := j.draw.map fun x => x - e.price } else j) e
  | .forgive => { j with forgiven := j.forgiven + 1 }

/-- R26: a resolved sheet in the meters. -/
def Meters.resolve (p : JamPolicy) (m : Meters) (e : PathEntry) : Meters :=
  match p with
  | .charge => m.countSides e
  | .forgive => m

/-- R43: a resolved sheet in the sticky faults. -/
def Faults.resolve (p : JamPolicy) (f : Faults) (e : PathEntry) : Faults :=
  match p with
  | .charge => if e.funded then f else { f with shortfall := true }
  | .forgive => f

/-- R43: a resolved sheet at the notice unit. -/
def Notices.resolve (st : Station) (p : JamPolicy) (n : Notices) (e : PathEntry) : Notices :=
  match p with
  | .charge => if e.funded then n else n.occur .shortfall (some st)
  | .forgive => n

/-- R42, R54: a resolved sheet in the slot of a card session. -/
def Slot.resolve (p : JamPolicy) (s : Slot) (e : PathEntry) : Slot :=
  match p with
  | .charge => if e.funded then { s with provisional := s.provisional - e.price, consumed := s.consumed + e.price } else s
  | .forgive => { s with provisional := s.provisional - e.provisional }

/-- R95: a resolved sheet in the entry of an account session. -/
def Account.resolve (p : JamPolicy) (a : Account) (e : PathEntry) : Account :=
  match p with
  | .charge =>
    if e.funded then
      { a with draws := a.draws - e.price, spent := a.spent + e.price
               live := a.live.addSheet (priceClass e.size e.colour) e.sides e.price }
    else a
  | .forgive => a

@[simp] theorem Session.resolve_funding (p : JamPolicy) (s : Session) (e : PathEntry) : (s.resolve p e).funding = s.funding := by
  unfold Session.resolve
  cases p
  · simp only; split <;> rfl
  · rfl

/-! ### What a resolution leaves alone -/

namespace Device.OthersSame

variable {d : Device} {st : Station}

theorem modAccount (d : Device) (st : Station) (n : Nat) (f : Account → Account) : d.OthersSame (d.modAccount n f) st :=
  of_eq rfl rfl rfl

theorem modSlot (d : Device) (st : Station) (i : SlotNo) (f : Slot → Slot) : d.OthersSame (d.modSlot i f) st :=
  of_eq rfl rfl rfl

theorem notice (d : Device) (st : Station) (c : NoticeClass) (x : Option Station) : d.OthersSame (d.notice c x) st :=
  of_eq rfl rfl rfl

theorem takeRefill (d : Device) (st : Station) : d.OthersSame (d.takeRefill st) st := by
  unfold Device.takeRefill
  split
  · exact refl d st
  · simp only
    refine (modCtx d st fun c => { c with refillAsked := none }).trans ?_
    split
    · exact modCtx _ st _
    · split
      · exact modCtx _ st _
      · split
        · exact (modAccount _ st _ _).trans (modCtx _ st _)
        · exact (modAccount _ st _ _).trans (modCtx _ st _)

theorem commitAccount (d : Device) (st : Station) (n price sides : Nat) (c : PriceClass) :
    d.OthersSame (d.commitAccount st n price sides c) st :=
  (takeRefill d st).trans (modAccount _ st n _)

theorem commitEntry (d : Device) (st : Station) (e : PathEntry) : d.OthersSame (d.commitEntry st e) st := by
  unfold Device.commitEntry
  split
  · exact (modCtx d st _).trans (commitAccount _ st _ _ _ _)
  · exact modSlot d st _ _
  · exact refl d st

theorem deliver (d : Device) (st : Station) (e : PathEntry) : d.OthersSame (d.deliver st e) st := by
  have charge : d.OthersSame (d.chargeEntry st e) st := by
    unfold Device.chargeEntry
    split
    · exact (commitEntry d st e).trans (modCtx _ st _)
    · exact ((modCtx d st _).trans (modCtx _ st _)).trans (notice _ st _ _)
  exact (charge.trans (modCtx _ st _)).trans (modCtx _ st _)

theorem returnCharge (d : Device) (st : Station) (e : PathEntry) : d.OthersSame (d.returnCharge st e) st := by
  unfold Device.returnCharge
  split
  · exact modSlot d st _ _
  · exact refl d st

theorem resolveEntry (d : Device) (st : Station) (p : JamPolicy) (e : PathEntry) : d.OthersSame (d.resolveEntry st p e) st := by
  cases p
  · exact (setPath d st _).trans (deliver _ st e)
  · exact (((setPath d st _).trans (returnCharge _ st e)).trans (modCtx _ st _)).trans (modCtx _ st _)

theorem resolveAll (d : Device) (st : Station) : d.OthersSame (d.resolveAll st) st := by
  unfold Device.resolveAll
  generalize d.configs[st].jamPolicy = p
  generalize d.path st = l
  induction l generalizing d with
  | nil => exact refl d st
  | cons e rest ih => exact (resolveEntry d st p e).trans (ih _)

end Device.OthersSame

namespace Device.TableActs

theorem commitAccount (d : Device) (st : Station) (n price sides : Nat) (c : PriceClass) :
    d.TableActs (d.commitAccount st n price sides c) st :=
  (takeRefill d st).trans (modAccount _ st n _)

end Device.TableActs

/-! ### Sheets resolved -/

/-- What the resolution of the sheets `l` of a session leaves, but for the path list itself (R42, R43, R54, R67): `d` is the part
before, `t` afterwards, `s` the session record before. -/
structure Device.SheetsResolved (d t : Device) (st : Station) (s : Session) (p : JamPolicy) (l : List PathEntry) : Prop where
  ctx : t.ctx st = { d.ctx st with
    session := some (l.foldl (Session.resolve p) s)
    job := (d.ctx st).job.map fun j => l.foldl (Job.resolve s.funding.isAccount p) j
    faults := l.foldl (Faults.resolve p) (d.ctx st).faults, meters := l.foldl (Meters.resolve p) (d.ctx st).meters
    refillAsked := (t.ctx st).refillAsked, accountMail := (t.ctx st).accountMail }
  rest : t = { d with
    contexts := t.contexts, paths := t.paths, accounts := t.accounts, slots := t.slots
    notices := l.foldl (Notices.resolve st p) d.notices }
  mail : s.funding.isAccount = false ∨ (d.ctx st).refillAsked = none →
    (t.ctx st).refillAsked = (d.ctx st).refillAsked ∧ (t.ctx st).accountMail = (d.ctx st).accountMail
  account : ∀ n, s.funding = .account n → t.slots = d.slots ∧ ((d.ctx st).refillAsked = none →
    (t.account n = (d.account n).map fun a => l.foldl (Account.resolve p) a) ∧ ∀ m, m ≠ n → t.account m = d.account m)
  card : ∀ ref, s.funding = .card ref → t.accounts = d.accounts ∧
    t.slot ref.slot = l.foldl (Slot.resolve p) (d.slot ref.slot) ∧ d.OtherSlotsSame t ref.slot

namespace Device.SheetsResolved

variable {d x t : Device} {st : Station} {s : Session} {p : JamPolicy} {e : PathEntry} {l : List PathEntry}

theorem ports (h : d.SheetsResolved t st s p l) : t.ports = d.ports := (congrArg Device.ports h.rest :)
theorem tariff (h : d.SheetsResolved t st s p l) : t.tariff = d.tariff := (congrArg Device.tariff h.rest :)
theorem payQueue (h : d.SheetsResolved t st s p l) : t.payQueue = d.payQueue := (congrArg Device.payQueue h.rest :)
theorem outstanding (h : d.SheetsResolved t st s p l) : t.outstanding = d.outstanding := (congrArg Device.outstanding h.rest :)
theorem staleVoids (h : d.SheetsResolved t st s p l) : t.staleVoids = d.staleVoids := (congrArg Device.staleVoids h.rest :)
theorem payReports (h : d.SheetsResolved t st s p l) : t.payReports = d.payReports := (congrArg Device.payReports h.rest :)
theorem reports (h : d.SheetsResolved t st s p l) : t.reports = d.reports := (congrArg Device.reports h.rest :)
theorem mgmt (h : d.SheetsResolved t st s p l) : t.mgmt = d.mgmt := (congrArg Device.mgmt h.rest :)
theorem port (h : d.SheetsResolved t st s p l) (x : Station) : t.port x = d.port x := (congrArg (Device.port · x) h.rest :)
theorem notices (h : d.SheetsResolved t st s p l) : t.notices = l.foldl (Notices.resolve st p) d.notices :=
  (congrArg Device.notices h.rest :)

theorem nil (h : (d.ctx st).session = some s) : d.SheetsResolved d st s p [] where
  ctx := by simp [← h]
  rest := rfl
  mail := fun _ => ⟨rfl, rfl⟩
  account := fun n _ => ⟨rfl, fun _ => ⟨by simp, fun _ _ => rfl⟩⟩
  card := fun _ _ => ⟨rfl, rfl, fun _ _ => rfl⟩

/-- One sheet after the other. -/
theorem cons (h : d.SheetsResolved x st s p [e]) (k : x.SheetsResolved t st (s.resolve p e) p l) :
    d.SheetsResolved t st s p (e :: l) := by
  have asked : s.funding.isAccount = false ∨ (d.ctx st).refillAsked = none →
      s.funding.isAccount = false ∨ (x.ctx st).refillAsked = none := fun c =>
    c.imp_right fun none => (h.mail (.inr none)).1.trans none
  refine ⟨?_, ?_, fun c => ?_, fun n hn => ?_, fun ref hr => ?_⟩
  · have ctx := k.ctx
    rw [h.ctx] at ctx
    simpa [Option.map_map, Function.comp_def] using ctx
  · have rest := k.rest
    rw [h.rest] at rest
    exact rest
  · obtain ⟨a, m⟩ := h.mail c
    obtain ⟨a', m'⟩ := k.mail (by simpa using asked c)
    exact ⟨a'.trans a, m'.trans m⟩
  · obtain ⟨slots, entries⟩ := h.account n hn
    obtain ⟨slots', entries'⟩ := k.account n (by simpa using hn)
    refine ⟨slots'.trans slots, fun none => ?_⟩
    obtain ⟨entry, others⟩ := entries none
    obtain ⟨entry', others'⟩ := entries' ((h.mail (.inr none)).1.trans none)
    exact ⟨by rw [entry', entry, Option.map_map]; rfl, fun m hm => (others' m hm).trans (others m hm)⟩
  · obtain ⟨accounts, slot, others⟩ := h.card ref hr
    obtain ⟨accounts', slot', others'⟩ := k.card ref (by simpa using hr)
    exact ⟨accounts'.trans accounts, by rw [slot', slot]; rfl, fun i hi => (others' i hi).trans (others i hi)⟩

/-- The path list's own change is no part of it. -/
theorem after_setPath {path : List PathEntry} (h : (d.setPath st path).SheetsResolved t st s p l) : d.SheetsResolved t st s p l :=
  ⟨h.ctx, h.rest, h.mail, h.account, h.card⟩

end Device.SheetsResolved

/-- A part of which no more than some tables have changed. -/
theorem Device.eq_of_parts {d t : Device} {n : Notices} {c : Vector Context 16} {p : Vector (List PathEntry) 16} {a : List Account}
    {s : Vector Slot 32} (h : t = { d with contexts := c, paths := p, accounts := a, slots := s, notices := n }) :
    t = { d with contexts := t.contexts, paths := t.paths, accounts := t.accounts, slots := t.slots, notices := n } := by
  subst h
  rfl

section
variable {d : Device} {st : Station} {s : Session}

theorem Device.commitEntry_of_account (e : PathEntry) {n : Nat} (h : (d.ctx st).session = some s) (f : s.funding = .account n) :
    d.commitEntry st e = (d.modJob st fun j => { j with draw := j.draw.map fun x => x - e.price }).commitAccount st n e.price
      e.sides (priceClass e.size e.colour) := by
  obtain ⟨_, _⟩ := s
  subst f
  rw [Device.commitEntry, h]

theorem Device.commitEntry_of_card (e : PathEntry) {ref : SlotRef} (h : (d.ctx st).session = some s) (f : s.funding = .card ref) :
    d.commitEntry st e = d.commitCard ref.slot e.price := by
  obtain ⟨_, _⟩ := s
  subst f
  rw [Device.commitEntry, h]

theorem Device.returnCharge_of_account (e : PathEntry) {n : Nat} (h : (d.ctx st).session = some s) (f : s.funding = .account n) :
    d.returnCharge st e = d := by
  obtain ⟨_, _⟩ := s
  subst f
  rw [Device.returnCharge, h]

theorem Device.returnCharge_of_card (e : PathEntry) {ref : SlotRef} (h : (d.ctx st).session = some s)
    (f : s.funding = .card ref) : d.returnCharge st e = d.returnCard ref.slot e.provisional := by
  obtain ⟨_, _⟩ := s
  subst f
  rw [Device.returnCharge, h]

/-- R42, R95: a funded sheet of an account session. -/
theorem Device.deliver_resolved_of_account {e : PathEntry} (funded : e.funded = true) {n : Nat}
    (h : (d.ctx st).session = some s) (f : s.funding = .account n) : d.SheetsResolved (d.deliver st e) st s .charge [e] := by
  let x := d.modJob st fun j => { j with draw := j.draw.map fun x => x - e.price }
  let y := x.commitAccount st n e.price e.sides (priceClass e.size e.colour)
  have acts : x.TableActs y st := .commitAccount x st n _ _ _
  have step : d.deliver st e = ((y.modSession st fun s => s.commit e).modJob st fun j => j.deliver e).modMeters st
      fun m => m.countSides e := by
    rw [Device.deliver, Device.chargeEntry, if_pos funded, Device.commitEntry_of_account e h f]
  have ctx : (d.deliver st e).ctx st = { y.ctx st with
      session := (y.ctx st).session.map fun s => s.commit e, job := (y.ctx st).job.map fun j => j.deliver e
      meters := (y.ctx st).meters.countSides e } := by
    simp [step, Device.modSession, Device.modJob, Device.modMeters]
  have inner : y.ctx st = { d.ctx st with
      job := (d.ctx st).job.map fun j => { j with draw := j.draw.map fun x => x - e.price }
      refillAsked := (y.ctx st).refillAsked, accountMail := (y.ctx st).accountMail } := by
    have := acts.ctx st
    simpa only [x, Device.modJob, Device.ctx_modCtx] using this
  have unasked : (d.ctx st).refillAsked = none → y = x.modAccount n fun a => { a with
      draws := a.draws - e.price, spent := a.spent + e.price
      live := a.live.addSheet (priceClass e.size e.colour) e.sides e.price } := fun none =>
    Device.commitAccount_of_none (d := x) (by simpa [x, Device.modJob] using none) _ _ _
  refine ⟨?_, Device.eq_of_parts (c := (d.deliver st e).contexts) (p := d.paths) (a := y.accounts) (s := d.slots) ?_,
    fun c => ?_, fun m hm => ⟨?_, fun none => ?_⟩, fun ref hr => ?_⟩
  · rw [ctx, inner]
    simp [h, Session.resolve, Job.resolve, Meters.resolve, Faults.resolve, funded, f, Funding.isAccount, Option.map_map,
      Function.comp_def]
  · have table := congrArg (fun z : Device => { z with contexts := (d.deliver st e).contexts }) acts.rest
    have whole : d.deliver st e = { y with contexts := (d.deliver st e).contexts } := by rw [step]; rfl
    rw [whole]
    simp only [List.foldl_cons, List.foldl_nil, Notices.resolve, funded, if_true]
    exact table
  · rw [ctx, unasked (c.resolve_left (by simp [f, Funding.isAccount]))]
    simp [x, Device.modJob]
  · rw [step]; exact acts.slots
  · obtain rfl : n = m := by rw [f] at hm; exact Funding.account.inj hm
    have accounts : (d.deliver st e).accounts = y.accounts := by rw [step]; rfl
    refine ⟨?_, fun k hk => ?_⟩ <;> rw [Device.account_of_accounts accounts, unasked none]
    · have entry := x.account_modAccount n (fun a => { a with
        draws := a.draws - e.price, spent := a.spent + e.price
        live := a.live.addSheet (priceClass e.size e.colour) e.sides e.price }) fun _ => rfl
      rw [entry]
      simp only [List.foldl_cons, List.foldl_nil, Account.resolve, funded, if_true]
      rfl
    · exact x.account_modAccount_ne n k _ (fun _ => rfl) hk
  · rw [f] at hr; cases hr

/-- R42: a funded sheet of a card session. -/
theorem Device.deliver_resolved_of_card {e : PathEntry} (funded : e.funded = true) {ref : SlotRef}
    (h : (d.ctx st).session = some s) (f : s.funding = .card ref) : d.SheetsResolved (d.deliver st e) st s .charge [e] := by
  have step : d.deliver st e = (((d.commitCard ref.slot e.price).modSession st fun s => s.commit e).modJob st fun j =>
      j.deliver e).modMeters st fun m => m.countSides e := by
    rw [Device.deliver, Device.chargeEntry, if_pos funded, Device.commitEntry_of_card e h f]
  have ctx : (d.deliver st e).ctx st = { d.ctx st with
      session := (d.ctx st).session.map fun s => s.commit e, job := (d.ctx st).job.map fun j => j.deliver e
      meters := (d.ctx st).meters.countSides e } := by
    simp [step, Device.modSession, Device.modJob, Device.modMeters, Device.commitCard]
  refine ⟨?_, ?_, fun _ => ?_, fun n hn => ?_, fun r hr => ?_⟩
  · rw [ctx]
    simp [h, Session.resolve, Job.resolve, Meters.resolve, Faults.resolve, funded, f, Funding.isAccount]
  · simp only [List.foldl_cons, List.foldl_nil, Notices.resolve, funded, if_true]
    rw [step]; rfl
  · rw [ctx]; exact ⟨rfl, rfl⟩
  · rw [f] at hn; cases hn
  · obtain rfl : ref = r := by rw [f] at hr; exact Funding.card.inj hr
    rw [step]
    refine ⟨rfl, ?_, fun i hi => d.slot_modSlot_ne ref.slot i _ hi⟩
    simp only [List.foldl_cons, List.foldl_nil, Slot.resolve, funded, if_true]
    exact d.slot_modSlot ref.slot _

theorem Device.deliver_of_unfunded {e : PathEntry} (unfunded : e.funded = false) :
    d.deliver st e = (((d.modSession st fun s => s.addShortfall e).shortfallFault st).modJob st fun j =>
      j.deliver e).modMeters st fun m => m.countSides e := by
  rw [Device.deliver, Device.chargeEntry, if_neg (by simp [unfunded])]

/-- R43: an UNFUNDED sheet. -/
theorem Device.deliver_resolved_of_unfunded {e : PathEntry} (unfunded : e.funded = false) (h : (d.ctx st).session = some s) :
    d.SheetsResolved (d.deliver st e) st s .charge [e] := by
  have step := Device.deliver_of_unfunded (d := d) (st := st) unfunded
  have ctx : (d.deliver st e).ctx st = { d.ctx st with
      session := (d.ctx st).session.map fun s => s.addShortfall e, job := (d.ctx st).job.map fun j => j.deliver e
      faults := { (d.ctx st).faults with shortfall := true }, meters := (d.ctx st).meters.countSides e } := by
    simp [step, Device.modSession, Device.modJob, Device.modMeters, Device.shortfallFault, Device.modFaults]
  refine ⟨?_, ?_, fun _ => ?_, fun n hn => ⟨?_, fun _ => ?_⟩, fun r hr => ?_⟩
  · rw [ctx]
    simp [h, Session.resolve, Job.resolve, Meters.resolve, Faults.resolve, unfunded]
  · simp only [List.foldl_cons, List.foldl_nil, Notices.resolve, unfunded]
    rw [step]; rfl
  · rw [ctx]; exact ⟨rfl, rfl⟩
  · rw [step]; rfl
  · rw [step]
    simp only [List.foldl_cons, List.foldl_nil, Account.resolve, unfunded]
    exact ⟨Option.map_id'.symm, fun _ _ => rfl⟩
  · rw [step]
    simp only [List.foldl_cons, List.foldl_nil, Slot.resolve, unfunded]
    exact ⟨rfl, rfl, fun _ _ => rfl⟩

/-- R42, R43: a delivered sheet. -/
theorem Device.deliver_resolved (e : PathEntry) (h : (d.ctx st).session = some s) :
    d.SheetsResolved (d.deliver st e) st s .charge [e] := by
  cases funded : e.funded with
  | false => exact Device.deliver_resolved_of_unfunded funded h
  | true =>
    cases f : s.funding with
    | account n => exact Device.deliver_resolved_of_account funded h f
    | card ref => exact Device.deliver_resolved_of_card funded h f

/-- R54, R67: a sheet forgiven. -/
theorem Device.forgive_resolved (e : PathEntry) (h : (d.ctx st).session = some s) :
    d.SheetsResolved (d.outcomeForgiven st e) st s .forgive [e] := by
  let x := (d.dropEntry st e.ordinal).returnCharge st e
  have ctx : (d.outcomeForgiven st e).ctx st = { x.ctx st with
      session := (x.ctx st).session.map fun s => { s with forgiven := s.forgiven + 1 }
      job := (x.ctx st).job.map fun j => { j with forgiven := j.forgiven + 1 } } := by
    simp [Device.outcomeForgiven, Device.modSession, Device.modJob, x]
  have same : x.ctx st = d.ctx st := by
    simp only [x, Device.returnCharge]
    split <;> rfl
  have session : ((d.dropEntry st e.ordinal).ctx st).session = some s := h
  cases f : s.funding with
  | account n =>
    have x_eq : x = d.dropEntry st e.ordinal := Device.returnCharge_of_account e session f
    have whole : d.outcomeForgiven st e = (x.modJob st fun j => { j with forgiven := j.forgiven + 1 }).modSession st
        fun s => { s with forgiven := s.forgiven + 1 } := rfl
    rw [x_eq] at whole
    refine ⟨?_, ?_, fun _ => ?_, fun m _ => ⟨?_, fun _ => ?_⟩, fun r hr => ?_⟩
    · rw [ctx, same]
      simp [h, Session.resolve, Job.resolve, Meters.resolve, Faults.resolve]
    · rw [whole]; rfl
    · rw [ctx, same]; exact ⟨rfl, rfl⟩
    · rw [whole]; rfl
    · rw [whole]
      simp only [List.foldl_cons, List.foldl_nil, Account.resolve]
      exact ⟨Option.map_id'.symm, fun _ _ => rfl⟩
    · rw [f] at hr; cases hr
  | card ref =>
    have x_eq : x = (d.dropEntry st e.ordinal).returnCard ref.slot e.provisional := Device.returnCharge_of_card e session f
    have whole : d.outcomeForgiven st e = (x.modJob st fun j => { j with forgiven := j.forgiven + 1 }).modSession st
        fun s => { s with forgiven := s.forgiven + 1 } := rfl
    rw [x_eq] at whole
    refine ⟨?_, ?_, fun _ => ?_, fun m hm => ?_, fun r hr => ?_⟩
    · rw [ctx, same]
      simp [h, Session.resolve, Job.resolve, Meters.resolve, Faults.resolve]
    · rw [whole]; rfl
    · rw [ctx, same]; exact ⟨rfl, rfl⟩
    · rw [f] at hm; cases hm
    · obtain rfl : ref = r := by rw [f] at hr; exact Funding.card.inj hr
      rw [whole]
      refine ⟨rfl, ?_, fun i hi => (d.dropEntry st e.ordinal).slot_modSlot_ne ref.slot i _ hi⟩
      exact (d.dropEntry st e.ordinal).slot_modSlot ref.slot _

/-- R67: a sheet resolved by a jam policy. -/
theorem Device.resolveEntry_resolved (p : JamPolicy) (e : PathEntry) (h : (d.ctx st).session = some s) :
    d.SheetsResolved (d.resolveEntry st p e) st s p [e] := by
  cases p
  · exact (Device.deliver_resolved (d := d.dropEntry st e.ordinal) e h).after_setPath
  · exact Device.forgive_resolved e h

/-- R67, R70: a whole path list resolved. -/
theorem Device.resolveAll_resolved (h : (d.ctx st).session = some s) :
    d.SheetsResolved (d.resolveAll st) st s d.configs[st].jamPolicy (d.path st) := by
  unfold Device.resolveAll
  generalize d.configs[st].jamPolicy = p
  generalize d.path st = l
  induction l generalizing d s with
  | nil => exact .nil h
  | cons e rest ih =>
    have first := Device.resolveEntry_resolved p e h
    exact first.cons (ih (by rw [first.ctx]; rfl))

end

/-! ### The path list of a resolution -/

section
variable (d : Device) (st : Station)

theorem Device.commitEntry_lines (e : PathEntry) :
    (d.commitEntry st e).paths = d.paths ∧ (d.commitEntry st e).ports = d.ports := by
  unfold Device.commitEntry
  split
  · have acts := fun x n => Device.TableActs.commitAccount x st n e.price e.sides (priceClass e.size e.colour)
    exact ⟨(acts _ _).paths, (acts _ _).ports⟩
  · exact ⟨rfl, rfl⟩
  · exact ⟨rfl, rfl⟩

/-- A delivery leaves the path lists and the ports alone. -/
theorem Device.deliver_lines (e : PathEntry) : (d.deliver st e).paths = d.paths ∧ (d.deliver st e).ports = d.ports := by
  have charge : (d.chargeEntry st e).paths = d.paths ∧ (d.chargeEntry st e).ports = d.ports := by
    unfold Device.chargeEntry
    split
    · exact Device.commitEntry_lines d st e
    · exact ⟨rfl, rfl⟩
  exact charge

theorem Device.returnCharge_lines (e : PathEntry) :
    (d.returnCharge st e).paths = d.paths ∧ (d.returnCharge st e).ports = d.ports := by
  unfold Device.returnCharge
  split <;> exact ⟨rfl, rfl⟩

@[simp] theorem Device.ports_resolveEntry (p : JamPolicy) (e : PathEntry) : (d.resolveEntry st p e).ports = d.ports := by
  cases p
  · exact (Device.deliver_lines _ st e).2
  · exact (Device.returnCharge_lines _ st e).2

@[simp] theorem Device.ports_resolveAll : (d.resolveAll st).ports = d.ports := by
  unfold Device.resolveAll
  generalize d.configs[st].jamPolicy = p
  generalize d.path st = l
  induction l generalizing d with
  | nil => rfl
  | cons e rest ih => exact (ih _).trans (d.ports_resolveEntry st p e)

/-- R52: a resolved entry leaves its path list. -/
theorem Device.path_resolveEntry (p : JamPolicy) (e : PathEntry) :
    (d.resolveEntry st p e).path st = (d.path st).eraseP fun x => x.ordinal == e.ordinal := by
  cases p
  · exact (congrArg (·[st]) (Device.deliver_lines _ st e).1).trans (d.path_setPath st _)
  · exact (congrArg (·[st]) (Device.returnCharge_lines _ st e).1).trans (d.path_setPath st _)

/-- R67: nothing is left of a path list that has been resolved. -/
@[simp] theorem Device.path_resolveAll : (d.resolveAll st).path st = [] := by
  unfold Device.resolveAll
  generalize d.configs[st].jamPolicy = p
  have all : ∀ (l : List PathEntry) (x : Device), x.path st = l →
      (l.foldl (fun x e => x.resolveEntry st p e) x).path st = [] := by
    intro l
    induction l with
    | nil => exact fun x hx => hx
    | cons e rest ih =>
      intro x hx
      refine ih _ ?_
      rw [Device.path_resolveEntry, hx]
      exact List.eraseP_cons_of_pos (beq_self_eq_true _)
  exact all _ d rfl

end

/-! ### Sums -/

/-- A count that each sheet raises. -/
theorem foldl_count {α : Type} (get : α → Count) (step : α → PathEntry → α) (f : PathEntry → Nat)
    (h : ∀ a e, get (step a e) = get a + BitVec.ofNat 32 (f e)) (l : List PathEntry) (a : α) :
    get (l.foldl step a) = get a + BitVec.ofNat 32 (l.map f).sum := by
  induction l generalizing a with
  | nil => simp
  | cons e rest ih => rw [List.foldl_cons, ih, h, List.map_cons, List.sum_cons, BitVec.ofNat_add, BitVec.add_assoc]

/-- An amount that each sheet raises. -/
theorem foldl_add {α : Type} (get : α → Nat) (step : α → PathEntry → α) (f : PathEntry → Nat)
    (h : ∀ a e, get (step a e) = get a + f e) (l : List PathEntry) (a : α) :
    get (l.foldl step a) = get a + (l.map f).sum := by
  induction l generalizing a with
  | nil => simp
  | cons e rest ih => rw [List.foldl_cons, ih, h, List.map_cons, List.sum_cons, Nat.add_assoc]

/-- An amount that each sheet lowers, 0 at the least. -/
theorem foldl_sub {α : Type} (get : α → Nat) (step : α → PathEntry → α) (f : PathEntry → Nat)
    (h : ∀ a e, get (step a e) = get a - f e) (l : List PathEntry) (a : α) :
    get (l.foldl step a) = get a - (l.map f).sum := by
  induction l generalizing a with
  | nil => simp
  | cons e rest ih => rw [List.foldl_cons, ih, h, List.map_cons, List.sum_cons, Nat.sub_sub]

/-- A sum over the sheets of a kind. -/
theorem sum_filter_map (p : PathEntry → Bool) (f : PathEntry → Nat) (l : List PathEntry) :
    ((l.filter p).map f).sum = (l.map fun e => if p e then f e else 0).sum := by
  induction l with
  | nil => rfl
  | cons e rest ih => by_cases h : p e <;> simp [h, ih]

end Sys2Proof.Machine
end

section
/-! PROOF. EXIT of a sheet that is not the last (O26). -/

namespace Sys2Proof.Machine

/-- R37, R42: a delivered sheet in the job record, field by field. -/
theorem Job.deliver_eq (j : Job) (e : PathEntry) : j.deliver e = { j with
    delivered := j.delivered + 1, surplus := if e.surplus then j.surplus + 1 else j.surplus
    inner := if e.surplus then j.inner else if j.inner ≤ 1 then j.sheetsPerSet else j.inner - 1
    outer := if e.surplus then j.outer else if j.inner ≤ 1 then j.outer - 1 else j.outer } := by
  unfold Job.deliver Job.countDown
  by_cases surplus : e.surplus = true
  · simp only [surplus, if_true]
  · by_cases last : j.inner ≤ 1 <;> simp only [surplus, last, if_true, if_false, Bool.false_eq_true]

section
variable {d : Device} {st : Station} {e : PathEntry} {front back : List PathEntry}

/-- R42: the entry that an EXIT names is the first that carries its ordinal. -/
theorem Device.entryOf_of_first (h : d.path st = front ++ e :: back) (first : ∀ x ∈ front, x.ordinal ≠ e.ordinal) :
    d.entryOf st e.ordinal = some e := by
  have none : front.find? (fun x => x.ordinal == e.ordinal) = .none := by simpa using first
  simp [Device.entryOf, h, List.find?_append, none]

/-- R42, R52: a delivered entry leaves its path list. -/
theorem Device.path_outcomeDelivered (h : d.path st = front ++ e :: back) (first : ∀ x ∈ front, x.ordinal ≠ e.ordinal) :
    (d.outcomeDelivered st e).path st = front ++ back := by
  have erased := Device.path_resolveEntry d st .charge e
  rw [h, List.eraseP_append_right _ (by simpa using first), List.eraseP_cons_of_pos (by simp)] at erased
  exact erased

theorem Device.port_outcomeDelivered (x : Station) : (d.outcomeDelivered st e).port x = d.port x :=
  congrArg (·[x]) (Device.ports_resolveEntry d st .charge e)

/-- R42: an EXIT that names an entry, with a job under way. -/
theorem Device.takeExit_of_entry {j : Job} (state : (d.ctx st).state ∈ [StationState.running, .held, .closing])
    (job : (d.ctx st).job = some j) (h : d.path st = front ++ e :: back) (first : ∀ x ∈ front, x.ordinal ≠ e.ordinal) :
    d.takeExit st e.ordinal = (d.outcomeDelivered st e).afterExit st (d.path st).length := by
  simp only [List.mem_cons, List.not_mem_nil, or_false] at state
  rcases state with s | s | s <;> simp [Device.takeExit, s, job, Device.entryOf_of_first h first]

/-- R44: with sheets left and a list that was not full, an EXIT in RUNNING has no further effect. -/
theorem Device.afterExit_of_running {before : Nat} (running : (d.ctx st).state = .running) (left : d.path st ≠ [])
    (few : before < 8) : d.afterExit st before = d := by
  unfold Device.afterExit
  split
  · rfl
  · rename_i j job
    have full : before ≠ Config.pathCapacity := Nat.ne_of_lt few
    have more : d.pathEmpty st = false := by simpa [Device.pathEmpty] using left
    have going : d.complete st = false := by simp [Device.complete, job, more]
    simp [going, more, running, full]

end

/-- Settles O26: the delivery of one sheet, by its funding. -/
theorem exitDeliversSheet : Obligations.ExitDeliversSheet := by
  intro d q st s j e front back h running session job path first left few
  have awake : d.awake st = d.heard st := d.awake_eq_heard st (by simp [running]) (by simp [running])
  have session' : ((d.heard st).ctx st).session = some s := session
  let t := (d.heard st).outcomeDelivered st e
  have done : (d.heard st).SheetsResolved t st s .charge [e] := Device.resolveEntry_resolved .charge e session'
  have steady : d.Steady t := (Device.Steady.heard d st).trans (.outcomeDelivered _ st e)
  have path_t : t.path st = front ++ back := Device.path_outcomeDelivered (d := d.heard st) path first
  have running_t : (t.ctx st).state = .running := by rw [done.ctx]; exact running
  have taken : (d.awake st).takeExit st e.ordinal = t := by
    rw [awake, Device.takeExit_of_entry (d := d.heard st) (j := j) (by simp [running]) job path first]
    exact Device.afterExit_of_running running_t (by rw [path_t]; exact left) few
  simp only
  refine ⟨t, by rw [exec_exit q h (by simp [running]), taken], path_t, running_t, ?_, ?_, Device.port_outcomeDelivered st,
    (Device.OthersSame.heard d st).trans (.resolveEntry _ st .charge e), steady.setupSame, steady.uplinkSame ?_, ?_,
    steady.exporting, fun n a account funded known asked => ?_, fun ref card funded => ?_, fun unfunded => ?_⟩
  · rw [done.ctx]; rfl
  · rw [done.ctx]; rfl
  · exact done.reports
  · exact done.tariff
  · obtain ⟨slots, entries⟩ := done.account n account
    obtain ⟨entry, others⟩ := entries asked
    have known' : (d.heard st).account n = some a := known
    refine ⟨?_, ?_, ?_, ⟨slots, done.payQueue, done.outstanding, done.staleVoids, done.payReports⟩, ?_, others, ?_⟩
    · rw [done.ctx]
      simp [job, Job.resolve, account, funded, Funding.isAccount, Job.deliver_eq]
    · rw [done.ctx]
      simp [Session.resolve, funded, Session.commit, update]
    · rw [done.ctx]
      simp [Faults.resolve, funded]
    · rw [entry, known']
      simp [Account.resolve, funded, PeriodRecord.addSheet, update]
    · rw [done.notices]
      simp [Notices.resolve, funded]
  · obtain ⟨accounts, slot, others⟩ := done.card ref card
    refine ⟨?_, ?_, ?_, ?_, others, done.payQueue, ⟨accounts, steady.exporting⟩, ?_⟩
    · rw [done.ctx]
      simp [job, Job.resolve, card, funded, Funding.isAccount, Job.deliver_eq]
    · rw [done.ctx]
      simp [Session.resolve, funded, Session.commit, update]
    · rw [done.ctx]
      simp [Faults.resolve, funded]
    · rw [slot]
      simp [Slot.resolve, funded]
    · rw [done.notices]
      simp [Notices.resolve, funded]
  · have step : t = _ := Device.deliver_of_unfunded (d := (d.heard st).dropEntry st e.ordinal) unfunded
    have accounts : t.accounts = d.accounts := by rw [step]; rfl
    have slots : t.slots = d.slots := by rw [step]; rfl
    refine ⟨?_, ?_, ?_, ⟨slots, done.payQueue, done.outstanding, done.staleVoids, done.payReports⟩,
      ⟨accounts, steady.exporting⟩, ?_⟩
    · rw [done.ctx]
      simp [job, Job.resolve, unfunded, Job.deliver_eq]
    · rw [done.ctx]
      simp [Session.resolve, unfunded, Session.addShortfall]
    · rw [done.ctx]
      simp [Faults.resolve, unfunded]
    · rw [done.notices]
      simp [Notices.resolve, unfunded, Device.notice]

end Sys2Proof.Machine
end

section
/-! PROOF. The end of a job (R50) and of a session (R22, R24): what each leaves, at the station and elsewhere. -/

namespace Sys2Proof.Machine

namespace Device.OthersSameButMail

variable {d t u : Device} {st : Station}

theorem of_othersSame (h : d.OthersSame t st) : d.OthersSameButMail t st := fun x hx => by
  obtain ⟨ctx, path, port⟩ := h x hx
  exact ⟨by rw [ctx], path, port⟩

theorem refl (d : Device) (st : Station) : d.OthersSameButMail d st := of_othersSame (.refl d st)

theorem trans (h : d.OthersSameButMail t st) (k : t.OthersSameButMail u st) : d.OthersSameButMail u st := fun x hx => by
  obtain ⟨ctx, path, port⟩ := h x hx
  obtain ⟨ctx', path', port'⟩ := k x hx
  exact ⟨by rw [ctx', ctx], path'.trans path, port'.trans port⟩

end Device.OthersSameButMail

/-! ### The end of a job -/

/-- R26: a job that ends in the meters. -/
def Meters.jobEnded (m : Meters) (r : JobEndReason) : Meters :=
  { m with jobsCompleted := m.jobsCompleted + if r = .complete then 1 else 0 }

/-- R50: a job that ends, before its draw is released and its record removed. -/
def Device.jobEnding (d : Device) (st : Station) (reason : JobEndReason) (tell : Bool) : Device :=
  let d := d.modJob st fun j => { j with endReason := some reason }
  let d := if tell then d.send st (.jobEnd reason) else d
  let d := if reason = .complete then d.modMeters st fun m => { m with jobsCompleted := m.jobsCompleted + 1 } else d
  d.modCtx st fun c => { c with waitTimer := none }

section
variable (d : Device) (st : Station) (r : JobEndReason) (tell : Bool)

theorem Device.ctx_jobEnding : (d.jobEnding st r tell).ctx st = { d.ctx st with
    job := (d.ctx st).job.map fun j => { j with endReason := some r }
    meters := (d.ctx st).meters.jobEnded r, waitTimer := none } := by
  cases tell <;> by_cases complete : r = .complete <;>
    simp [Device.jobEnding, Device.modJob, Device.modMeters, Meters.jobEnded, complete]

theorem Device.jobEnding_rest : d.jobEnding st r tell = { d with
    contexts := (d.jobEnding st r tell).contexts, ports := (d.jobEnding st r tell).ports
    notices := (d.jobEnding st r tell).notices } := by
  unfold Device.jobEnding
  cases tell <;> by_cases complete : r = .complete <;> simp only [complete, if_true, if_false]
  · rfl
  · rfl
  · rw [Device.send_rest]; rfl
  · rw [Device.send_rest]; rfl

theorem Device.port_jobEnding : (d.jobEnding st r tell).port st = if tell then (d.port st).queued (.jobEnd r) else d.port st := by
  cases tell <;> by_cases complete : r = .complete <;>
    simp [Device.jobEnding, Device.modJob, Device.modMeters, complete]

theorem Device.OthersSame.jobEnding : d.OthersSame (d.jobEnding st r tell) st := by
  unfold Device.jobEnding
  simp only
  refine .trans ?_ (.modCtx _ st _)
  have told : d.OthersSame (if tell then (d.modJob st fun j => { j with endReason := some r }).send st (.jobEnd r)
      else d.modJob st fun j => { j with endReason := some r }) st := by
    split
    · exact (Device.OthersSame.modCtx d st _).trans (.send _ st _)
    · exact .modCtx d st _
  split
  · exact told.trans (.modCtx _ st _)
  · exact told

end

/-- Nothing but contexts, ports, notices and account entries has changed. -/
def Device.LinesOnly (d t : Device) : Prop :=
  t = { d with contexts := t.contexts, ports := t.ports, notices := t.notices, accounts := t.accounts }

theorem Device.LinesOnly.of_eq {d t : Device} {c : Vector Context 16} {p : Vector Port 16} {n : Notices} {a : List Account}
    (h : t = { d with contexts := c, ports := p, notices := n, accounts := a }) : d.LinesOnly t := by
  subst h
  rfl

theorem Device.LinesOnly.trans {d t u : Device} (h : d.LinesOnly t) (k : t.LinesOnly u) : d.LinesOnly u := by
  unfold Device.LinesOnly at h k ⊢
  rw [h] at k
  exact k

namespace Device.LinesOnly

variable {d t : Device} (h : d.LinesOnly t)
include h

theorem paths : t.paths = d.paths := (congrArg Device.paths h :)
theorem path (x : Station) : t.path x = d.path x := (congrArg (Device.path · x) h :)
theorem configs : t.configs = d.configs := (congrArg Device.configs h :)
theorem tariff : t.tariff = d.tariff := (congrArg Device.tariff h :)
theorem slots : t.slots = d.slots := (congrArg Device.slots h :)
theorem slot (x : SlotNo) : t.slot x = d.slot x := (congrArg (Device.slot · x) h :)
theorem payQueue : t.payQueue = d.payQueue := (congrArg Device.payQueue h :)
theorem outstanding : t.outstanding = d.outstanding := (congrArg Device.outstanding h :)
theorem staleVoids : t.staleVoids = d.staleVoids := (congrArg Device.staleVoids h :)
theorem payReports : t.payReports = d.payReports := (congrArg Device.payReports h :)
theorem reports : t.reports = d.reports := (congrArg Device.reports h :)
theorem mgmt : t.mgmt = d.mgmt := (congrArg Device.mgmt h :)

end Device.LinesOnly

/-- What the end of a job leaves (R50): `d` is the part before, `t` afterwards, `draw` what the job had drawn. -/
structure Device.JobEnded (d t : Device) (st : Station) (r : JobEndReason) (tell : Bool) (draw : Nat) : Prop where
  ctx : t.ctx st = { d.ctx st with
    job := none, waitTimer := none, meters := (d.ctx st).meters.jobEnded r
    refillAsked := (t.ctx st).refillAsked, accountMail := (t.ctx st).accountMail }
  port : t.port st = if tell then (d.port st).queued (.jobEnd r) else d.port st
  rest : d.LinesOnly t
  others : d.OthersSameButMail t st
  card : ∀ s ref, (d.ctx st).session = some s → s.funding = .card ref → t.accounts = d.accounts ∧ d.OthersSame t st ∧
    (t.ctx st).refillAsked = (d.ctx st).refillAsked
  account : ∀ s n a, (d.ctx st).session = some s → s.funding = .account n → d.account n = some a →
    (d.ctx st).refillAsked = none → (t.ctx st).refillAsked = none ∧ ∃ b, d.DrawReturned t st n a b draw

theorem Device.outlived_eq (d : Device) (st : Station) : d.outlived st =
    d.modCtx st fun c => { c with accountMail := c.accountMail.map AccountMail.outlive } :=
  Device.modCtx_congr _ _ _ _ (congrArg (fun l => { d.ctx st with accountMail := l })
    (List.map_congr_left fun m _ => by cases m <;> rfl))

theorem Device.accountMail_outlived (d : Device) (st : Station) :
    ((d.outlived st).ctx st).accountMail = (d.ctx st).accountMail.map AccountMail.outlive := by
  rw [Device.outlived_eq, Device.ctx_modCtx]

theorem Device.accountMail_outlived_ne (d : Device) {st x : Station} (h : x ≠ st) :
    ((d.outlived st).ctx x).accountMail = (d.ctx x).accountMail := by
  rw [Device.outlived_eq, Device.ctx_modCtx_ne _ _ _ _ h]

/-- R50, R94: what the release of a job's draw and the removal of its record leave of an account. -/
theorem Device.drawReturned {d : Device} {st : Station} {n : Nat} {a : Account} (draw : Nat) (known : d.account n = some a)
    (asked : (d.ctx st).refillAsked = none) : ∃ b, d.DrawReturned
      ((d.jobEndRelease st n draw).modCtx st fun c => { c with job := none, accountMail := c.accountMail.map .outlive })
      st n a b draw := by
  let y := (d.modAccount n fun a => a.dropWaiter st).modAccount n fun a => { a with draws := a.draws - draw }
  have entry : y.account n = some { a with
      waiting := a.waiting.filter fun w => w.station ≠ st, draws := a.draws - draw } := by
    have dropped := d.account_modAccount n (fun a => a.dropWaiter st) fun _ => rfl
    have lowered := (d.modAccount n fun a => a.dropWaiter st).account_modAccount n
      (fun a => { a with draws := a.draws - draw }) fun _ => rfl
    rw [lowered, dropped, known]
    rfl
  have others : ∀ m, m ≠ n → y.account m = d.account m := fun m hm =>
    ((d.modAccount n fun a => a.dropWaiter st).account_modAccount_ne n m (fun a => { a with draws := a.draws - draw })
      (fun _ => rfl) hm).trans (d.account_modAccount_ne n m (fun a => a.dropWaiter st) (fun _ => rfl) hm)
  obtain ⟨b, served⟩ := Device.serveIf_listServed entry (0 < draw)
  rw [Device.jobEndRelease_of_none asked]
  obtain ⟨grants, granted, left, kept, sent⟩ := served.served
  refine ⟨b, served.entry, fun m hm => (served.others m hm).trans (others m hm), grants, ?_, ?_, kept, fun x => ?_⟩
  · have mgmt : (d.outlived st).mgmt = y.mgmt := rfl
    rw [mgmt]
    simpa using granted
  · simpa using left
  · by_cases e : x = st
    · subst e
      rw [Device.ctx_modCtx, Device.accountMail_outlived]
      simp only
      rw [sent, List.map_append, List.map_map]
      rfl
    · rw [Device.ctx_modCtx_ne _ _ _ _ e, Device.accountMail_outlived_ne _ e]
      exact sent x

theorem Device.endJob_of_job {d : Device} {st : Station} {j : Job} (h : (d.ctx st).job = some j) (r : JobEndReason) (tell : Bool) :
    d.endJob st r tell = ((d.jobEnding st r tell).releaseDraw st (j.draw.getD 0)).modCtx st fun c =>
      { c with job := none, accountMail := c.accountMail.map AccountMail.outlive } := by
  rw [Device.endJob, h]
  rfl

section
variable {d : Device} {st : Station} {s : Session}

theorem Device.releaseDraw_of_account {n : Nat} (h : (d.ctx st).session = some s) (f : s.funding = .account n) (draw : Nat) :
    d.releaseDraw st draw = d.jobEndRelease st n draw := by
  obtain ⟨_, _⟩ := s
  subst f
  rw [Device.releaseDraw, h]

theorem Device.releaseDraw_of_card {ref : SlotRef} (h : (d.ctx st).session = some s) (f : s.funding = .card ref) (draw : Nat) :
    d.releaseDraw st draw = d := by
  obtain ⟨_, _⟩ := s
  subst f
  rw [Device.releaseDraw, h]

/-- What a release leaves is a matter of the other entries, the draw size and the messages under way before it. -/
theorem Device.DrawReturned.of_before {e t : Device} {n : Nat} {a b : Account} {draw : Nat} (h : d.DrawReturned t st n a b draw)
    (others : ∀ m, m ≠ n → d.account m = e.account m) (mgmt : d.mgmt = e.mgmt)
    (mail : ∀ x, (d.ctx x).accountMail = (e.ctx x).accountMail) : e.DrawReturned t st n a b draw := by
  refine Device.ListServed.of_before h others mgmt fun x => ?_
  by_cases hx : x = st
  · subst hx; rw [Device.accountMail_outlived, Device.accountMail_outlived, mail x]
  · rw [Device.accountMail_outlived_ne _ hx, Device.accountMail_outlived_ne _ hx, mail x]

/-- R50: the end of a job. -/
theorem Device.endJob_ended {j : Job} (h : (d.ctx st).job = some j) (r : JobEndReason) (tell : Bool) :
    d.JobEnded (d.endJob st r tell) st r tell (j.draw.getD 0) := by
  rw [Device.endJob_of_job h]
  have ctx := d.ctx_jobEnding st r tell
  have rest := d.jobEnding_rest st r tell
  have port := d.port_jobEnding st r tell
  have same := Device.OthersSame.jobEnding d st r tell
  generalize d.jobEnding st r tell = x at ctx rest port same
  have acts := Device.TableActs.releaseDraw x st (j.draw.getD 0)
  refine ⟨?_, ?_, ?_, ?_, fun s ref session card => ?_, fun s n a session account known asked => ?_⟩
  · rw [Device.ctx_modCtx, acts.ctx st, ctx]
  · exact (acts.port st).trans port
  · exact ((Device.LinesOnly.of_eq rest).trans (.of_eq acts.rest)).trans (.of_eq rfl)
  · exact ((Device.OthersSameButMail.of_othersSame same).trans acts.othersSameButMail).trans
      (.of_othersSame (.modCtx _ st _))
  · rw [Device.releaseDraw_of_card (s := s) (by rw [ctx]; exact session) card]
    refine ⟨?_, same.trans (.modCtx x st _), ?_⟩
    · rw [rest]; rfl
    · rw [Device.ctx_modCtx, ctx]
  · rw [Device.releaseDraw_of_account (s := s) (by rw [ctx]; exact session) account] at acts ⊢
    refine ⟨?_, ?_⟩
    · rw [Device.ctx_modCtx]
      exact (acts.asked st (.inr (by rw [ctx]; exact asked))).trans (by rw [ctx]; exact asked)
    · have table : ∀ m, x.account m = d.account m := fun m => by rw [rest]; rfl
      have mail : ∀ y, (x.ctx y).accountMail = (d.ctx y).accountMail := fun y => by
        by_cases hy : y = st
        · subst hy; rw [ctx]
        · rw [(same y hy).1]
      obtain ⟨b, returned⟩ := Device.drawReturned (d := x) (j.draw.getD 0) ((table n).trans known) (by rw [ctx]; exact asked)
      exact ⟨b, returned.of_before (fun m _ => table m) (by rw [rest]) mail⟩

end

/-! ### The close of a session -/

section
variable (d : Device) (st : Station)

/-- R24, R96: what a session's release does at the stations is the account table's part in it. -/
theorem Device.releaseSession_acts : ∃ y, d.TableActs y st ∧ (d.releaseSession st).contexts = y.contexts ∧
    (d.releaseSession st).paths = y.paths ∧ (d.releaseSession st).ports = y.ports := by
  unfold Device.releaseSession
  split
  · exact ⟨d, .refl d st, rfl, rfl, rfl⟩
  · rename_i s _
    cases s.funding with
    | account n => exact ⟨_, .sessionRelease d st n _, rfl, rfl, rfl⟩
    | card ref =>
      exact ⟨d, .refl d st, Device.finalizeSlot_contexts d _ _, Device.finalizeSlot_paths d _ _, Device.finalizeSlot_ports d _ _⟩

theorem Device.closeSession_eq (r : EndReason) : d.closeSession st r =
    (if r = .carrier then d.releaseSession st else (d.releaseSession st).send st (.sessionEnd r)).modCtx st fun c =>
      { c with session := none, endPending := none, job := none, roomTold := false } := rfl

/-- R24: the context of a station whose session has been closed. -/
theorem Device.ctx_closeSession (r : EndReason) : (d.closeSession st r).ctx st = { d.ctx st with
    session := none, endPending := none, job := none, roomTold := false
    refillAsked := ((d.closeSession st r).ctx st).refillAsked, accountMail := ((d.closeSession st r).ctx st).accountMail } := by
  obtain ⟨y, acts, contexts, -, -⟩ := d.releaseSession_acts st
  have ctx : (d.releaseSession st).ctx st = y.ctx st := congrArg (·[st]) contexts
  rw [Device.closeSession_eq, Device.ctx_modCtx]
  split
  · rw [ctx, acts.ctx st]
  · rw [Device.send_ctx, ctx, acts.ctx st]

/-- R24: END is sent unless the carrier is lost. -/
theorem Device.port_closeSession (r : EndReason) : (d.closeSession st r).port st =
    if r = .carrier then d.port st else (d.port st).queued (.sessionEnd r) := by
  obtain ⟨y, acts, -, -, ports⟩ := d.releaseSession_acts st
  have port : (d.releaseSession st).port st = d.port st := congrArg (·[st]) (ports.trans acts.ports)
  rw [Device.closeSession_eq, Device.modCtx_port]
  split
  · exact port
  · rw [Device.port_send, port]

theorem Device.paths_closeSession (r : EndReason) : (d.closeSession st r).paths = d.paths := by
  obtain ⟨y, acts, -, paths, -⟩ := d.releaseSession_acts st
  rw [Device.closeSession_eq, Device.modCtx_paths]
  split
  · exact paths.trans acts.paths
  · rw [Device.send_paths]; exact paths.trans acts.paths

theorem Device.OthersSameButMail.closeSession (r : EndReason) : d.OthersSameButMail (d.closeSession st r) st := by
  obtain ⟨y, acts, contexts, paths, ports⟩ := d.releaseSession_acts st
  have released : d.OthersSameButMail (d.releaseSession st) st :=
    acts.othersSameButMail.trans (.of_othersSame (.of_eq contexts paths ports))
  rw [Device.closeSession_eq]
  refine .trans ?_ (.of_othersSame (.modCtx _ st _))
  split
  · exact released
  · exact released.trans (.of_othersSame (.send _ st _))

end

section
variable {d : Device} {st : Station} {s : Session}

/-- R24, R96: the release of an account session. -/
theorem Device.releaseSession_of_account {n : Nat} (h : (d.ctx st).session = some s) (f : s.funding = .account n) :
    ∃ draw, d.releaseSession st = (d.sessionRelease st n draw).releaseBank s.bank ∧ ((d.ctx st).job = none → draw = 0) := by
  obtain ⟨_, _⟩ := s
  subst f
  rw [Device.releaseSession, h]
  exact ⟨_, rfl, fun none => by rw [none]⟩

/-- R24, R127: the release of a card session. -/
theorem Device.releaseSession_of_card {ref : SlotRef} (h : (d.ctx st).session = some s) (f : s.funding = .card ref) :
    d.releaseSession st = (d.finalizeSlot ref.slot (d.slot ref.slot).consumed).releaseBank s.bank := by
  obtain ⟨_, _⟩ := s
  subst f
  rw [Device.releaseSession, h]

end

/-- What the close of a session leaves (R24): `d` is the part before, `t` afterwards, `s` the session record. -/
structure Device.SessionShut (d t : Device) (st : Station) (s : Session) (r : EndReason) : Prop where
  rest : t = { d with
    contexts := t.contexts, ports := t.ports, notices := t.notices, accounts := t.accounts, slots := t.slots
    payQueue := t.payQueue, tariff := d.tariff.modBank s.bank fun b => { b with refCount := b.refCount - 1 } }
  account : ∀ n, s.funding = .account n → t.slots = d.slots ∧ t.payQueue = d.payQueue ∧
    ((d.ctx st).job = none → (d.ctx st).refillAsked = none →
      (∀ m, t.account m = (d.modAccount n fun a =>
        { a.dropWaiter st with openSessions := a.openSessions - 1, draws := a.draws - 0 }).account m) ∧
      ∀ x, (t.ctx x).accountMail = (d.ctx x).accountMail)
  card : ∀ ref, s.funding = .card ref → t.slots = (d.finalizeSlot ref.slot (d.slot ref.slot).consumed).slots ∧
    t.payQueue = (d.finalizeSlot ref.slot (d.slot ref.slot).consumed).payQueue

/-- END and the removal of the session record are no part of it. -/
theorem Device.SessionShut.of_lines {d x t : Device} {st : Station} {s : Session} {r : EndReason} (h : d.SessionShut x st s r)
    (lines : x.LinesOnly t) (accounts : t.accounts = x.accounts)
    (mail : ∀ y, (t.ctx y).accountMail = (x.ctx y).accountMail) : d.SessionShut t st s r where
  rest := by
    have whole := lines
    unfold Device.LinesOnly at whole
    rw [h.rest] at whole
    have slots := lines.slots
    have payQueue := lines.payQueue
    rw [← slots, ← payQueue] at whole
    exact whole
  account n f := by
    obtain ⟨slots, payQueue, entries⟩ := h.account n f
    refine ⟨lines.slots.trans slots, lines.payQueue.trans payQueue, fun job asked => ?_⟩
    obtain ⟨entry, same⟩ := entries job asked
    exact ⟨fun m => (Device.account_of_accounts accounts m).trans (entry m), fun y => (mail y).trans (same y)⟩
  card ref f := by
    obtain ⟨slots, payQueue⟩ := h.card ref f
    exact ⟨lines.slots.trans slots, lines.payQueue.trans payQueue⟩

theorem Device.eq_of_released {d t : Device} {b : BankName} {c : Vector Context 16} {p : Vector Port 16} {n : Notices}
    {a : List Account} {s : Vector Slot 32} {q : List QueueEntry}
    (h : t = { d with
      contexts := c, ports := p, notices := n, accounts := a, slots := s, payQueue := q
      tariff := d.tariff.modBank b fun k => { k with refCount := k.refCount - 1 } }) :
    t = { d with
      contexts := t.contexts, ports := t.ports, notices := t.notices, accounts := t.accounts, slots := t.slots
      payQueue := t.payQueue, tariff := d.tariff.modBank b fun k => { k with refCount := k.refCount - 1 } } := by
  subst h
  rfl

theorem Device.releaseSession_shut {d : Device} {st : Station} {s : Session} (h : (d.ctx st).session = some s) (r : EndReason) :
    d.SessionShut (d.releaseSession st) st s r := by
  cases f : s.funding with
  | account n =>
    obtain ⟨draw, step, idle⟩ := Device.releaseSession_of_account h f
    have acts := Device.TableActs.sessionRelease d st n draw
    rw [step]
    refine ⟨?_, fun m hm => ⟨acts.slots, acts.payQueue, fun job asked => ?_⟩, fun ref hr => ?_⟩
    · have released := congrArg (fun z : Device => z.releaseBank s.bank) acts.rest
      exact Device.eq_of_released released
    · obtain rfl : n = m := by rw [f] at hm; exact Funding.account.inj hm
      rw [idle job, Device.sessionRelease_of_none asked]
      exact ⟨fun _ => rfl, fun _ => rfl⟩
    · rw [f] at hr; cases hr
  | card ref =>
    rw [Device.releaseSession_of_card h f]
    refine ⟨?_, fun n hn => ?_, fun k hk => ?_⟩
    · have released := congrArg (fun z : Device => z.releaseBank s.bank)
        (d.finalizeSlot_rest ref.slot (d.slot ref.slot).consumed)
      exact Device.eq_of_released released
    · rw [f] at hn; cases hn
    · obtain rfl : ref = k := by rw [f] at hk; exact Funding.card.inj hk
      exact ⟨rfl, rfl⟩

theorem Device.closeSession_shut {d : Device} {st : Station} {s : Session} (h : (d.ctx st).session = some s) (r : EndReason) :
    d.SessionShut (d.closeSession st r) st s r := by
  rw [Device.closeSession_eq]
  have released := Device.releaseSession_shut h r
  generalize d.releaseSession st = x at released
  have told : d.SessionShut (if r = .carrier then x else x.send st (.sessionEnd r)) st s r := by
    split
    · exact released
    · exact released.of_lines (.of_eq (x.send_rest st _)) (by simp) (by simp)
  generalize (if r = .carrier then x else x.send st (.sessionEnd r)) = y at told
  refine told.of_lines (.of_eq rfl) rfl fun z => ?_
  by_cases hz : z = st
  · subst hz; rw [Device.ctx_modCtx]
  · rw [Device.ctx_modCtx_ne _ _ _ _ hz]

end Sys2Proof.Machine
end

section
/-! PROOF. A session that ends without a job (O13). -/

namespace Sys2Proof.Machine

/-- R22, R24: a session's report is placed, the session closed, and the station enters IDLE. -/
def Device.closeOut (d : Device) (st : Station) (r : EndReason) : Device := ((d.placeReport st r).closeSession st r).enterIdle st

section
variable {d : Device} {st : Station} {s : Session} {r : EndReason}

/-- R145: the two conditions of an offer. -/
theorem Device.reportRoom_iff : d.reportRoom st = true ↔ d.HasRoom st := by
  simp [Device.reportRoom]

theorem Device.endSession_of_room (room : d.HasRoom st) (r : EndReason) : d.endSession st r = d.closeOut st r :=
  if_pos (Device.reportRoom_iff.mpr room)

theorem Device.endSession_of_full (full : ¬ d.HasRoom st) (r : EndReason) :
    d.endSession st r = (d.enter st .closing).modCtx st fun c => { c with endPending := some r } :=
  if_neg fun room => full (Device.reportRoom_iff.mp room)

theorem Device.placeReport_of_session (h : (d.ctx st).session = some s) (r : EndReason) :
    d.placeReport st r = { d with reports := d.reports ++ [s.report d st r] } := by
  rw [Device.placeReport, h]
  rfl

theorem Device.othersSame_placeReport (d : Device) (st : Station) (r : EndReason) : d.OthersSame (d.placeReport st r) st := by
  unfold Device.placeReport
  split <;> exact .of_eq rfl rfl rfl

theorem Device.OthersSameButMail.closeOut (d : Device) (st : Station) (r : EndReason) : d.OthersSameButMail (d.closeOut st r) st :=
  ((Device.OthersSameButMail.of_othersSame (d.othersSame_placeReport st r)).trans (.closeSession _ st r)).trans
    (.of_othersSame (.enterIdle _ st))

/-- R22, R24: what is over of a session: its record is reported, its funding and bank are released, and the station is IDLE. -/
theorem Device.closeOut_closed (h : (d.ctx st).session = some s) (notLost : r ≠ .carrier) :
    d.SessionClosed (d.closeOut st r) st s r := by
  let p : Device := { d with reports := d.reports ++ [s.report d st r] }
  have whole : d.closeOut st r = (p.closeSession st r).enterIdle st := by rw [Device.closeOut, Device.placeReport_of_session h]
  have shut : p.SessionShut (p.closeSession st r) st s r := Device.closeSession_shut (d := p) h r
  have ctx := p.ctx_closeSession st r
  have port := p.port_closeSession st r
  have paths := p.paths_closeSession st r
  have others := Device.OthersSameButMail.closeSession p st r
  have steady := Device.Steady.closeSession p st r
  rw [whole]
  generalize p.closeSession st r = t at shut ctx port paths others steady
  rw [if_neg notLost] at port
  refine ⟨?_, ?_, ?_, ?_, ?_, ?_, ?_, ?_, ?_, ?_, fun n a account job asked known => ?_, fun ref card standing => ?_,
    fun x hx => ?_, ?_, ?_⟩
  · exact (congrArg Device.reports shut.rest :)
  · rw [Device.ctx_enterIdle]
  · rw [Device.ctx_enterIdle, ctx]
  · rw [Device.ctx_enterIdle, ctx]
  · rw [Device.ctx_enterIdle, ctx]
  · rw [Device.ctx_enterIdle, steady.mgmt]; rfl
  · rw [Device.ctx_enterIdle]; exact ⟨rfl, rfl, rfl⟩
  · rw [Device.ctx_enterIdle, ctx]; exact ⟨rfl, rfl⟩
  · rw [Device.port_send]; exact port
  · exact (congrArg Device.tariff shut.rest :)
  · obtain ⟨-, -, entries⟩ := shut.account n account
    have entry := d.account_modAccount n (fun a =>
      { a.dropWaiter st with openSessions := a.openSessions - 1, draws := a.draws - 0 }) fun _ => rfl
    rw [known] at entry
    exact ((entries job asked).1 n).trans entry
  · obtain ⟨slots, payQueue⟩ := shut.card ref card
    rw [Device.finalizeSlot_of_standing (d := p) standing] at slots payQueue
    rw [Device.payQueue_queueFinal] at payQueue
    have slot := Device.slot_queueFinal (d := p) (i := ref.slot) (finalRequest (p.slot ref.slot).consumed)
    exact ⟨(congrArg (·[ref.slot]) slots).trans slot, payQueue⟩
  · obtain ⟨-, path, port⟩ := others x hx
    exact ⟨path, port⟩
  · exact congrArg (·[st]) paths
  · exact ⟨steady.exporting, steady.serviceUp, steady.uplink, steady.staleVoids, (congrArg Device.payReports shut.rest :),
      (congrArg Device.outstanding shut.rest :), steady.mgmt, steady.configs, steady.carrierDetect, steady.uplinkDetect,
      steady.resetAsserted⟩

/-- R96: after a session's close its account is still as the end of its last job left it, with one open session less. -/
theorem Device.DrawReturned.closeOut {e d : Device} {n : Nat} {a b : Account} {draw : Nat} (h : e.DrawReturned d st n a b draw)
    (session : (d.ctx st).session = some s) (account : s.funding = .account n) (job : (d.ctx st).job = none)
    (asked : (d.ctx st).refillAsked = none) (r : EndReason) :
    e.DrawReturned (d.closeOut st r) st n { a with openSessions := a.openSessions - 1 }
      { b with openSessions := a.openSessions - 1 } draw := by
  let p : Device := { d with reports := d.reports ++ [s.report d st r] }
  have whole : d.closeOut st r = (p.closeSession st r).enterIdle st := by
    rw [Device.closeOut, Device.placeReport_of_session session]
  have shut : p.SessionShut (p.closeSession st r) st s r := Device.closeSession_shut (d := p) session r
  rw [whole]
  generalize p.closeSession st r = t at shut
  obtain ⟨-, -, entries⟩ := shut.account n account
  obtain ⟨table, mail⟩ := entries job asked
  refine Device.ListServed.of_closed h ?_ (fun m hm => ?_) fun x => ?_
  · have entry := d.account_modAccount n (fun a =>
      { a.dropWaiter st with openSessions := a.openSessions - 1, draws := a.draws - 0 }) fun _ => rfl
    rw [h.entry] at entry
    refine ((table n).trans entry).trans ?_
    have gone : b.waiting.filter (fun w => w.station ≠ st) = b.waiting :=
      List.filter_eq_self.mpr fun w hw => (List.mem_filter.mp (h.waiting_subset hw)).2
    have sessions : b.openSessions = a.openSessions := h.openSessions
    simp only [Option.map_some, Account.dropWaiter, gone, sessions, Nat.sub_zero]
  · exact (table m).trans (d.account_modAccount_ne n m _ (fun _ => rfl) hm)
  · by_cases hx : x = st
    · subst hx; rw [Device.ctx_enterIdle]; exact mail x
    · rw [Device.ctx_enterIdle_ne hx]; exact mail x

end

/-! ### The retry of an offer -/

section
variable {d : Device} {st : Station} {r : EndReason}

theorem Device.offerAgain_of_room (pending : (d.ctx st).endPending = some r) (room : d.HasRoom st) :
    d.offerAgain st = d.closeOut st r := by
  rw [Device.offerAgain, pending]
  exact if_pos (Device.reportRoom_iff.mpr room)

theorem Device.offerAgain_of_full (pending : (d.ctx st).endPending = some r) (full : ¬ d.HasRoom st) : d.offerAgain st = d := by
  rw [Device.offerAgain, pending]
  exact if_neg fun room => full (Device.reportRoom_iff.mp room)

end

/-- Settles O13: each of the three reasons goes to R22's offer of the report, and so does the retry. -/
theorem sessionsWithoutJobEnd : Obligations.SessionsWithoutJobEnd := by
  refine ⟨fun d q st s opened session => ?_, fun d q st s r works closing job heard session pending notLost => ?_⟩
  · have hd : (d.ctx st).state ≠ .doze := by simp [opened]
    have session' : ((d.awake st).ctx st).session = some s := by simpa using session
    have room' : d.HasRoom st → (d.awake st).HasRoom st := fun room => by simpa [Device.HasRoom] using room
    have logout : (d.awake st).takeLogout st = (d.awake st).endSession st .logout := by simp [Device.takeLogout, opened]
    have expiry : d.Works → (d.ctx st).idleTimer = some 0 →
        exec (.idleTimerExpiry st) ⟨d, q⟩ = .next ⟨d.endSession st .idle, q⟩ := fun works timer =>
      (State.onDevice_running d q _ works).trans (by rw [Device.takeIdleExpiry, if_pos ⟨opened, timer⟩])
    refine ⟨fun h room => ?_, fun h room card => ?_, fun works timer room => ?_, fun h full => ?_, fun works timer full => ?_⟩
    · exact ⟨_, by rw [exec_logout q h hd, logout, Device.endSession_of_room (room' room)],
        Device.closeOut_closed session' (by simp)⟩
    · have cardOut : (d.awake st).takeCardOut st = (d.awake st).endSession st .cardOut := by
        simp [Device.takeCardOut, opened, card]
      exact ⟨_, by rw [exec_cardOut q h hd, cardOut, Device.endSession_of_room (room' room)],
        Device.closeOut_closed session' (by simp)⟩
    · exact ⟨_, by rw [expiry works timer, Device.endSession_of_room room], Device.closeOut_closed session (by simp)⟩
    · rw [exec_logout q h hd, logout, Device.endSession_of_full (by simpa using full)]
    · rw [expiry works timer, Device.endSession_of_full full]
  · intro told
    have retry : exec (.reportOfferRetry st) ⟨d, q⟩ = .next ⟨told.offerAgain st, q⟩ :=
      (State.onDevice_running d q _ works).trans (by rw [Device.takeRetry, if_pos ⟨closing, job, heard⟩])
    have pending' : (told.ctx st).endPending = some r := by rw [Device.ctx_modCtx]; exact pending
    have session' : (told.ctx st).session = some s := by rw [Device.ctx_modCtx]; exact session
    refine ⟨fun room => ?_, fun full => ?_⟩
    · exact ⟨_, by rw [retry, Device.offerAgain_of_room pending' room], Device.closeOut_closed session' notLost⟩
    · rw [retry, Device.offerAgain_of_full pending' full]

end Sys2Proof.Machine
end

section
/-! PROOF. What follows the end of a job (R22): OPEN, the end of the session, or the wait for room in the report queue. -/

namespace Sys2Proof.Machine

/-- What a release leaves is a matter of the entries and the messages under way after it. -/
theorem Device.DrawReturned.of_after {d t u : Device} {st : Station} {n : Nat} {a b : Account} {draw : Nat}
    (h : d.DrawReturned t st n a b draw) (accounts : u.accounts = t.accounts)
    (mail : ∀ x, (u.ctx x).accountMail = (t.ctx x).accountMail) : d.DrawReturned u st n a b draw :=
  Device.ListServed.of_after h (Device.account_of_accounts accounts) mail

namespace Device.JobEnded

variable {d t : Device} {st : Station} {r : JobEndReason} {tell : Bool} {draw : Nat}

theorem session (h : d.JobEnded t st r tell draw) : (t.ctx st).session = (d.ctx st).session := by rw [h.ctx]

theorem endPending (h : d.JobEnded t st r tell draw) : (t.ctx st).endPending = (d.ctx st).endPending := by rw [h.ctx]

theorem job (h : d.JobEnded t st r tell draw) : (t.ctx st).job = none := by rw [h.ctx]

/-- A notice afterwards is no part of it. -/
theorem notice (h : d.JobEnded t st r tell draw) (c : NoticeClass) (x : Option Station) :
    d.JobEnded (t.notice c x) st r tell draw where
  ctx := h.ctx
  port := h.port
  rest := h.rest.trans (.of_eq rfl)
  others := h.others
  card := h.card
  account s n a session account known asked := by
    obtain ⟨asked', b, returned⟩ := h.account s n a session account known asked
    exact ⟨asked', b, returned.of_after rfl fun _ => rfl⟩

end Device.JobEnded

/-! ### Entry to OPEN -/

/-- A job has ended and its station is OPEN (R17, R22): `d` is the part when the job ends, `t` the part afterwards, `s` the
session record, `draw` what the job had drawn. -/
structure Device.JobOpened (d t : Device) (st : Station) (s : Session) (r : JobEndReason) (draw : Nat) : Prop where
  ctx : t.ctx st = { d.ctx st with
    state := .opened, job := none, dozeTimer := none, idleTimer := some d.mgmt.params.idleTime, waitTimer := none
    jamTimer := none, meters := (d.ctx st).meters.jobEnded r
    refillAsked := (t.ctx st).refillAsked, accountMail := (t.ctx st).accountMail }
  rest : d.LinesOnly t
  others : d.OthersSameButMail t st
  card : ∀ ref, s.funding = .card ref →
    t.port st = ((d.port st).queued (.jobEnd r)).queued (.balance ((d.slot ref.slot).approved - (d.slot ref.slot).consumed)) ∧
    t.accounts = d.accounts ∧ d.OthersSame t st ∧ (t.ctx st).refillAsked = (d.ctx st).refillAsked
  account : ∀ n a, s.funding = .account n → d.account n = some a → (d.ctx st).refillAsked = none →
    (t.ctx st).refillAsked = none ∧ ∃ b, d.DrawReturned t st n a b draw ∧
    t.port st = ((d.port st).queued (.jobEnd r)).queued (.balance (b.limit - b.spent - b.draws))

section
variable {d t : Device} {st : Station} {s : Session} {r : JobEndReason} {draw : Nat}

theorem Device.LinesOnly.enterOpen (d : Device) (st : Station) : d.LinesOnly (d.enterOpen st) := .of_eq (d.enterOpen_rest st)

theorem Device.accountMail_enterOpen (d : Device) (st x : Station) :
    ((d.enterOpen st).ctx x).accountMail = (d.ctx x).accountMail := by
  by_cases hx : x = st
  · subst hx; rw [Device.ctx_enterOpen]
  · rw [Device.ctx_enterOpen_ne hx]

theorem Device.JobEnded.opened (h : d.JobEnded t st r true draw) (session : (d.ctx st).session = some s) :
    d.JobOpened (t.enterOpen st) st s r draw := by
  have session' : (t.ctx st).session = some s := h.session.trans session
  have port := Device.port_enterOpen session'
  rw [h.port, if_pos rfl] at port
  refine ⟨?_, h.rest.trans (.enterOpen t st), h.others.trans (.of_othersSame (.enterOpen t st)), fun ref card => ?_,
    fun n a account known asked => ?_⟩
  · rw [Device.ctx_enterOpen, h.ctx, h.rest.mgmt]
  · obtain ⟨accounts, others, asked⟩ := h.card s ref session card
    refine ⟨?_, (t.enterOpen_accounts st).trans accounts, others.trans (.enterOpen t st), ?_⟩
    · rw [port, card, Device.remainingOf, h.rest.slot]
    · rw [Device.ctx_enterOpen]; exact asked
  · obtain ⟨asked', b, returned⟩ := h.account s n a session account known asked
    refine ⟨?_, b, returned.of_after (t.enterOpen_accounts st) (t.accountMail_enterOpen st), ?_⟩
    · rw [Device.ctx_enterOpen]; exact asked'
    · rw [port, account, Device.remainingOf, returned.entry]
      rfl

end

/-! ### The end of the session -/

/-- A job has ended, and with it its session, its report accepted (R22, R24): `d` is the part when the job ends, `t` the part
afterwards, `s` the session record, `draw` what the job had drawn. -/
structure Device.JobClosed (d t : Device) (st : Station) (s : Session) (r : JobEndReason) (e : EndReason) (draw : Nat) : Prop where
  state : (t.ctx st).state = .idle
  session : (t.ctx st).session = none
  job : (t.ctx st).job = none
  endPending : (t.ctx st).endPending = none
  meters : (t.ctx st).meters = (d.ctx st).meters.jobEnded r
  port : t.port st = ((d.port st).queued (.jobEnd r)).queued (.sessionEnd e)
  path : t.path st = d.path st
  reports : t.reports = d.reports ++ [s.report d st e]
  others : d.OthersSameButMail t st
  card : ∀ ref, s.funding = .card ref → (d.slot ref.slot).state = .active ∨ (d.slot ref.slot).state = .expired →
    t.slot ref.slot = (d.slot ref.slot).finalized
  account : ∀ n a, s.funding = .account n → d.account n = some a → (d.ctx st).refillAsked = none →
    ∃ b, d.DrawReturned t st n { a with openSessions := a.openSessions - 1 } b draw

/-- A job has ended, and the station waits in CLOSING for room for its report (R22). -/
structure Device.JobWaits (d t : Device) (st : Station) (s : Session) (r : JobEndReason) (e : EndReason) (draw : Nat) : Prop where
  state : (t.ctx st).state = .closing
  session : (t.ctx st).session = some s
  job : (t.ctx st).job = none
  endPending : (t.ctx st).endPending = some e
  meters : (t.ctx st).meters = (d.ctx st).meters.jobEnded r
  port : t.port st = (d.port st).queued (.jobEnd r)
  rest : d.LinesOnly t
  others : d.OthersSameButMail t st
  card : ∀ ref, s.funding = .card ref → t.accounts = d.accounts
  account : ∀ n a, s.funding = .account n → d.account n = some a → (d.ctx st).refillAsked = none →
    ∃ b, d.DrawReturned t st n a b draw

section
variable {d t : Device} {st : Station} {s : Session} {r : JobEndReason} {e : EndReason} {draw : Nat}

theorem Session.report_of_slots {d t : Device} (s : Session) (st : Station) (e : EndReason) (slots : t.slots = d.slots) :
    s.report t st e = s.report d st e := by
  simp only [Session.report, Device.slot, slots]

theorem Device.JobEnded.closed (h : d.JobEnded t st r true draw) (session : (d.ctx st).session = some s) (notLost : e ≠ .carrier) :
    d.JobClosed (t.closeOut st e) st s r e draw := by
  have session' : (t.ctx st).session = some s := h.session.trans session
  have shut : t.SessionClosed (t.closeOut st e) st s e := Device.closeOut_closed session' notLost
  refine ⟨shut.state, shut.session, shut.job, shut.endPending, ?_, ?_, shut.path.trans (h.rest.path st), ?_,
    h.others.trans (.closeOut t st e), fun ref card standing => ?_, fun n a account known asked => ?_⟩
  · rw [shut.faults.2, h.ctx]
  · rw [shut.port, Device.port_send, h.port, if_pos rfl]
  · rw [shut.report, h.rest.reports, Session.report_of_slots s st e h.rest.slots]
  · rw [(shut.card ref card (by rw [h.rest.slot]; exact standing)).1, h.rest.slot]
  · obtain ⟨asked', b, returned⟩ := h.account s n a session account known asked
    exact ⟨_, returned.closeOut session' account h.job asked' e⟩

theorem Device.JobEnded.waits (h : d.JobEnded t st r true draw) (session : (d.ctx st).session = some s) :
    d.JobWaits ((t.enter st .closing).modCtx st fun c => { c with endPending := some e }) st s r e draw := by
  have ctx : ((t.enter st .closing).modCtx st fun c => { c with endPending := some e }).ctx st = { t.ctx st with
      state := .closing, endPending := some e, dozeTimer := none, idleTimer := none, waitTimer := none, jamTimer := none } := by
    simp [Device.enter]
  have mail : ∀ x, (((t.enter st .closing).modCtx st fun c => { c with endPending := some e }).ctx x).accountMail =
      (t.ctx x).accountMail := fun x => by
    by_cases hx : x = st
    · subst hx; rw [ctx]
    · rw [Device.ctx_modCtx_ne _ _ _ _ hx, Device.ctx_enter_ne hx]
  refine ⟨?_, ?_, ?_, ?_, ?_, h.port, h.rest.trans (.of_eq rfl), ?_, fun ref card => ?_, fun n a account known asked => ?_⟩
  · rw [ctx]
  · rw [ctx]; exact h.session.trans session
  · rw [ctx]; exact h.job
  · rw [ctx]
  · rw [ctx, h.ctx]
  · exact h.others.trans (.of_othersSame ((Device.OthersSame.modCtx t st _).trans (.modCtx _ st _)))
  · exact (h.card s ref session card).1
  · obtain ⟨-, b, returned⟩ := h.account s n a session account known asked
    exact ⟨b, returned.of_after rfl mail⟩

/-! ### Which of the three follows -/

theorem Device.afterJob_of_endPending (h : (d.ctx st).endPending = some e) (r : JobEndReason) (last : Bool) :
    d.afterJob st r last = d.endSession st e := by
  rw [Device.afterJob, h]

/-- R22: without end pending, and with neither the last job complete nor the funding spent, the station enters OPEN. -/
theorem Device.afterJob_of_open (h : (d.ctx st).endPending = none) {last : Bool} (more : ¬ (r = .complete ∧ last = true))
    (funds : ¬ (r = .funds ∧ d.fundingSpent st = true)) : d.afterJob st r last = d.enterOpen st := by
  rw [Device.afterJob, h]
  simp only
  rw [if_neg more, if_neg funds]

/-- R22, fourth case: the job has ended for want of funds and the funding can fund no more. -/
theorem Device.afterJob_of_spent (h : (d.ctx st).endPending = none) {last : Bool} (spent : d.fundingSpent st = true) :
    d.afterJob st .funds last = d.endSession st .fundsEnded := by
  rw [Device.afterJob, h]
  simp [spent]

theorem Device.fundingSpent_of_card {ref : SlotRef} (h : (d.ctx st).session = some s) (f : s.funding = .card ref) :
    d.fundingSpent st = (d.slot ref.slot).renewalsRefused := by
  obtain ⟨_, _⟩ := s
  subst f
  rw [Device.fundingSpent, h]

theorem Device.fundingSpent_of_account {n : Nat} {a : Account} (h : (d.ctx st).session = some s) (f : s.funding = .account n)
    (known : d.account n = some a) : d.fundingSpent st = (a.state == .stopped) := by
  obtain ⟨_, _⟩ := s
  subst f
  rw [Device.fundingSpent, h]
  simp [known]

theorem Device.finishJob_of_job {j : Job} (h : (d.ctx st).job = some j) (r : JobEndReason) :
    d.finishJob st r = (d.endJob st r true).afterJob st r j.lastJob := by
  rw [Device.finishJob, h]

end

section
variable {d : Device} {st : Station} {s : Session} {j : Job} {r : JobEndReason} {e : EndReason}
  (session : (d.ctx st).session = some s) (job : (d.ctx st).job = some j)
include session job

/-- R22: a job that ends with neither a reason for the session's end leaves the station OPEN. -/
theorem Device.finishJob_opened (pending : (d.ctx st).endPending = none) (more : ¬ (r = .complete ∧ j.lastJob = true))
    (funds : ¬ (r = .funds ∧ (d.endJob st r true).fundingSpent st = true)) :
    d.JobOpened (d.finishJob st r) st s r (j.draw.getD 0) := by
  have ended := Device.endJob_ended job r true
  rw [Device.finishJob_of_job job, Device.afterJob_of_open (ended.endPending.trans pending) more funds]
  exact ended.opened session

/-- R22: an end of session that the end of the job brings, with room for the report. -/
theorem Device.finishJob_closed (notLost : e ≠ .carrier) (room : d.HasRoom st)
    (ends : (d.endJob st r true).afterJob st r j.lastJob = (d.endJob st r true).endSession st e) :
    d.JobClosed (d.finishJob st r) st s r e (j.draw.getD 0) := by
  have ended := Device.endJob_ended job r true
  have room' : (d.endJob st r true).HasRoom st := by rw [Device.HasRoom, ended.rest.reports]; exact room
  rw [Device.finishJob_of_job job, ends, Device.endSession_of_room room']
  exact ended.closed session notLost

/-- R22: an end of session that the end of the job brings, without room for the report. -/
theorem Device.finishJob_waits (full : ¬ d.HasRoom st)
    (ends : (d.endJob st r true).afterJob st r j.lastJob = (d.endJob st r true).endSession st e) :
    d.JobWaits (d.finishJob st r) st s r e (j.draw.getD 0) := by
  have ended := Device.endJob_ended job r true
  have full' : ¬ (d.endJob st r true).HasRoom st := by rw [Device.HasRoom, ended.rest.reports]; exact full
  rw [Device.finishJob_of_job job, ends, Device.endSession_of_full full']
  exact ended.waits session

/-- R22, fourth case, for a card session. -/
theorem Device.fundingSpent_endJob_of_card {ref : SlotRef} (card : s.funding = .card ref) :
    (d.endJob st r true).fundingSpent st = (d.slot ref.slot).renewalsRefused := by
  have ended := Device.endJob_ended job r true
  rw [Device.fundingSpent_of_card (ended.session.trans session) card, ended.rest.slot]

/-- R22, fourth case, for an account session. -/
theorem Device.fundingSpent_endJob_of_account {n : Nat} {a : Account} (account : s.funding = .account n)
    (known : d.account n = some a) (asked : (d.ctx st).refillAsked = none) :
    (d.endJob st r true).fundingSpent st = (a.state == .stopped) := by
  have ended := Device.endJob_ended job r true
  obtain ⟨-, b, returned⟩ := ended.account s n a session account known asked
  have state : b.state = a.state := returned.state
  rw [Device.fundingSpent_of_account (ended.session.trans session) account returned.entry, state]

end

end Sys2Proof.Machine
end

section
/-! PROOF. The wait timer and the jam timer (O31). -/

namespace Sys2Proof.Machine

section
variable {d t : Device} {st : Station} {s : Session} {r : JobEndReason} {draw : Nat}

theorem Device.LinesOnly.paymentsSame (h : d.LinesOnly t) (steady : d.Steady t) : d.PaymentsSame t :=
  ⟨h.slots, h.payQueue, h.outstanding, steady.staleVoids, h.payReports⟩

end

/-- What the end of a job at OPEN leaves at the station, and what it leaves alone. -/
def Device.OpenAgain (d t : Device) (st : Station) (r : JobEndReason) (balance : Nat) : Prop :=
  (t.ctx st).state = .opened ∧ (t.ctx st).job = none ∧
  (t.ctx st).idleTimer = some d.mgmt.params.idleTime ∧ (t.ctx st).dozeTimer = none ∧ (t.ctx st).waitTimer = none ∧
  (t.ctx st).jamTimer = none ∧ (t.ctx st).endPending = none ∧
  t.port st = ((d.send st (.jobEnd r)).send st (.balance balance)).port st ∧
  d.OthersSameButMail t st ∧ t.exporting = d.exporting ∧ d.SetupSame t ∧ d.UplinkSame t ∧ t.tariff = d.tariff

section
variable {d t : Device} {st : Station} {s : Session} {j : Job} {r : JobEndReason} {draw : Nat}

/-- The part `x` is `d` with sheets resolved, its job has ended and its station has entered OPEN. -/
theorem Device.JobOpened.openAgain {x : Device} {k : Session} {p : JamPolicy} {l : List PathEntry}
    (h : x.JobOpened t st k r draw) (done : d.SheetsResolved x st s p l) (others : d.OthersSame x st) (steady : d.Steady t)
    (pending : (d.ctx st).endPending = none) {balance : Nat}
    (port : t.port st = ((x.port st).queued (.jobEnd r)).queued (.balance balance)) : d.OpenAgain t st r balance := by
  refine ⟨?_, ?_, ?_, ?_, ?_, ?_, ?_, ?_, (Device.OthersSameButMail.of_othersSame others).trans h.others, steady.exporting,
    steady.setupSame, steady.uplinkSame (h.rest.reports.trans done.reports), h.rest.tariff.trans done.tariff⟩
  case refine_3 => rw [h.ctx, done.mgmt]
  case refine_7 => rw [h.ctx, done.ctx]; exact pending
  case refine_8 => rw [port, done.port, Device.port_send, Device.port_send]
  all_goals rw [h.ctx]

theorem Device.JobOpened.session (h : d.JobOpened t st s r draw) : (t.ctx st).session = (d.ctx st).session := by rw [h.ctx]

/-- R47: a wait timer that runs out ends its job for want of funds. -/
theorem exec_waitTimerExpiry (q : List Instr) (works : d.Works) (held : (d.ctx st).state = .held)
    (timer : (d.ctx st).waitTimer = some 0) : exec (.waitTimerExpiry st) ⟨d, q⟩ = .next ⟨d.finishJob st .funds, q⟩ :=
  (State.onDevice_running d q _ works).trans (by rw [Device.takeWaitExpiry, if_pos ⟨held, timer⟩])

end

/-! ### What the resolution of a path list comes to -/

/-- A count that one sheet of a kind raises. -/
theorem count_update (v : Vector Count 8) (i c : PriceClass) (k : Nat) :
    (update v i fun n => n + BitVec.ofNat 32 k)[c] = v[c] + BitVec.ofNat 32 (if i == c then k else 0) := by
  by_cases h : c = i
  · subst h; rw [update_self, beq_self_eq_true, if_pos rfl]
  · rw [update_ne _ _ _ _ h, if_neg (by simpa using Ne.symm h)]
    simp

/-- R67: what a sheet counts for if it is of a kind: nothing under FORGIVE. -/
def chargedPart (p : JamPolicy) (kind : PathEntry → Bool) (f : PathEntry → Nat) (e : PathEntry) : Nat :=
  if p = .charge then if kind e then f e else 0 else 0

theorem sum_chargedPart (p : JamPolicy) (kind : PathEntry → Bool) (f : PathEntry → Nat) (l : List PathEntry) :
    (l.map (chargedPart p kind f)).sum = if p = .charge then ((l.filter kind).map f).sum else 0 := by
  cases p with
  | charge => rw [if_pos rfl, sum_filter_map]; rfl
  | forgive =>
    have none : chargedPart .forgive kind f = fun _ => 0 := rfl
    simp [none]

/-- R54, R67: what the sheets' charges take from the provisional total of a card session. -/
theorem sum_provisional (p : JamPolicy) (l : List PathEntry) :
    (l.map fun e => if p = .charge then if e.funded then e.price else 0 else e.provisional).sum =
      if p = .charge then (if p = .charge then ((l.filter (·.funded)).map (·.price)).sum else 0)
      else ((l.filter fun _ => true).map (·.provisional)).sum := by
  cases p with
  | charge => simp only [if_true, sum_filter_map]
  | forgive => simp

/-- A fold that changes some fields alone. -/
theorem foldl_with {α : Type} (step : α → PathEntry → α) (put : α → α → α) (self : ∀ a, put a a = a)
    (keep : ∀ a b e, put (step a e) b = put a b) (l : List PathEntry) (a : α) : l.foldl step a = put a (l.foldl step a) := by
  induction l generalizing a with
  | nil => exact (self a).symm
  | cons e rest ih =>
    rw [List.foldl_cons]
    exact (ih _).trans (keep a _ e)

section
variable (p : JamPolicy) (e : PathEntry) (s : Session)

/-- R3, R42: the committed sides of a class, one sheet on. -/
theorem Session.committedSides_resolve (c : PriceClass) : (s.resolve p e).committedSides[c] = s.committedSides[c] +
    BitVec.ofNat 32 (chargedPart p (fun e => e.funded && (priceClass e.size e.colour == c)) (·.sides) e) := by
  cases p with
  | forgive => simp [Session.resolve, chargedPart]
  | charge =>
    cases funded : e.funded with
    | false => simp [Session.resolve, Session.addShortfall, chargedPart, funded]
    | true =>
      simp only [Session.resolve, Session.commit, chargedPart, funded, if_true, Bool.true_and]
      exact count_update _ _ _ _

/-- R3, R42: the amount committed, one sheet on. -/
theorem Session.amountCommitted_resolve : (s.resolve p e).amountCommitted = s.amountCommitted +
    BitVec.ofNat 32 (chargedPart p (·.funded) (·.price) e) := by
  cases p with
  | forgive => simp [Session.resolve, chargedPart]
  | charge =>
    cases funded : e.funded <;> simp [Session.resolve, Session.commit, Session.addShortfall, chargedPart, funded]

/-- R43: the shortfall, one sheet on. -/
theorem Session.shortfall_resolve :
    (s.resolve p e).shortfallAmount = s.shortfallAmount + BitVec.ofNat 32 (chargedPart p (fun e => !e.funded) (·.price) e) ∧
    (s.resolve p e).shortfallSides = s.shortfallSides + BitVec.ofNat 32 (chargedPart p (fun e => !e.funded) (·.sides) e) := by
  cases p with
  | forgive => simp [Session.resolve, chargedPart]
  | charge =>
    cases funded : e.funded <;> simp [Session.resolve, Session.commit, Session.addShortfall, chargedPart, funded]

/-- R67: the sheets forgiven, one sheet on. -/
theorem Session.forgiven_resolve :
    (s.resolve p e).forgiven = s.forgiven + BitVec.ofNat 32 (if p = .charge then 0 else 1) := by
  cases p with
  | forgive => simp [Session.resolve]
  | charge => cases funded : e.funded <;> simp [Session.resolve, Session.commit, Session.addShortfall, funded]

/-- What a sheet leaves of a session record. -/
def Session.withCounts (s k : Session) : Session := { s with
  committedSides := k.committedSides, amountCommitted := k.amountCommitted, shortfallAmount := k.shortfallAmount
  shortfallSides := k.shortfallSides, forgiven := k.forgiven }

theorem Session.withCounts_resolve (k : Session) : (s.resolve p e).withCounts k = s.withCounts k := by
  cases p with
  | forgive => rfl
  | charge => cases funded : e.funded <;> simp [Session.resolve, Session.commit, Session.addShortfall, Session.withCounts, funded]

end

section
variable (p : JamPolicy) (l : List PathEntry)

/-- R3, R42, R43, R67: the session record after a path list has been resolved. -/
theorem Session.foldl_resolve (s : Session) :
    let k := l.foldl (Session.resolve p) s
    (∀ c : PriceClass, k.committedSides[c] = s.committedSides[c] + BitVec.ofNat 32
      (l.map (chargedPart p (fun e => e.funded && (priceClass e.size e.colour == c)) (·.sides))).sum) ∧
    k.amountCommitted = s.amountCommitted + BitVec.ofNat 32 (l.map (chargedPart p (·.funded) (·.price))).sum ∧
    k.shortfallAmount = s.shortfallAmount + BitVec.ofNat 32 (l.map (chargedPart p (fun e => !e.funded) (·.price))).sum ∧
    k.shortfallSides = s.shortfallSides + BitVec.ofNat 32 (l.map (chargedPart p (fun e => !e.funded) (·.sides))).sum ∧
    k.forgiven = s.forgiven + BitVec.ofNat 32 (if p = .charge then 0 else l.length) ∧ k = s.withCounts k := by
  refine ⟨fun c => foldl_count (fun s => s.committedSides[c]) _ _ (fun s e => s.committedSides_resolve p e c) l s,
    foldl_count (·.amountCommitted) _ _ (fun s e => s.amountCommitted_resolve p e) l s,
    foldl_count (·.shortfallAmount) _ _ (fun s e => (s.shortfall_resolve p e).1) l s,
    foldl_count (·.shortfallSides) _ _ (fun s e => (s.shortfall_resolve p e).2) l s, ?_,
    foldl_with _ Session.withCounts (fun _ => rfl) (fun s k e => s.withCounts_resolve p e k) l s⟩
  have forgiven := foldl_count (·.forgiven) _ _ (fun s e => s.forgiven_resolve p e) l s
  cases p <;> simpa using forgiven

/-- R26: the meters after a path list has been resolved. -/
theorem Meters.foldl_resolve (m : Meters) :
    (∀ c : PriceClass, (l.foldl (Meters.resolve p) m).deliveredSides[c] = m.deliveredSides[c] + BitVec.ofNat 32
      (l.map (chargedPart p (fun e => priceClass e.size e.colour == c) (·.sides))).sum) ∧
    l.foldl (Meters.resolve p) m = { m with deliveredSides := (l.foldl (Meters.resolve p) m).deliveredSides } := by
  refine ⟨fun c => foldl_count (fun m => m.deliveredSides[c]) _ _ (fun m e => ?_) l m,
    foldl_with _ (fun m k => { m with deliveredSides := k.deliveredSides }) (fun _ => rfl) (fun m k e => ?_) l m⟩ <;>
    cases p
  · exact count_update _ _ _ _
  · simp [Meters.resolve, chargedPart]
  · rfl
  · rfl

/-- R42, R54: the slot of a card session after its path list has been resolved. -/
theorem Slot.foldl_resolve (s : Slot) : l.foldl (Slot.resolve p) s = { s with
    consumed := s.consumed + (l.map (chargedPart p (·.funded) (·.price))).sum
    provisional := s.provisional - (l.map fun e => if p = .charge then if e.funded then e.price else 0 else e.provisional).sum } := by
  have consumed := foldl_add Slot.consumed (Slot.resolve p) (chargedPart p (·.funded) (·.price)) (fun s e => by
    cases p with
    | forgive => rfl
    | charge => cases funded : e.funded <;> simp [Slot.resolve, chargedPart, funded]) l s
  have provisional := foldl_sub Slot.provisional (Slot.resolve p)
    (fun e => if p = .charge then if e.funded then e.price else 0 else e.provisional) (fun s e => by
    cases p with
    | forgive => rfl
    | charge => cases funded : e.funded <;> simp [Slot.resolve, funded]) l s
  have rest := foldl_with (Slot.resolve p) (fun s k => { s with consumed := k.consumed, provisional := k.provisional })
    (fun _ => rfl) (fun s k e => by
    cases p with
    | forgive => rfl
    | charge => cases funded : e.funded <;> simp [Slot.resolve, funded]) l s
  rw [consumed, provisional] at rest
  exact rest

/-- R95: the entry of an account session after its path list has been resolved. -/
theorem Account.foldl_resolve (a : Account) :
    let live := (l.foldl (Account.resolve p) a).live
    l.foldl (Account.resolve p) a = { a with
      draws := a.draws - (l.map (chargedPart p (·.funded) (·.price))).sum
      spent := a.spent + (l.map (chargedPart p (·.funded) (·.price))).sum, live := live } ∧
    (∀ c : PriceClass, live.sides[c] = a.live.sides[c] + BitVec.ofNat 32
      (l.map (chargedPart p (fun e => e.funded && (priceClass e.size e.colour == c)) (·.sides))).sum) ∧
    live.amount = a.live.amount + BitVec.ofNat 32 (l.map (chargedPart p (·.funded) (·.price))).sum ∧
    live.sessions = a.live.sessions := by
  have draws := foldl_sub Account.draws (Account.resolve p) (chargedPart p (·.funded) (·.price)) (fun a e => by
    cases p with
    | forgive => rfl
    | charge => cases funded : e.funded <;> simp [Account.resolve, chargedPart, funded]) l a
  have spent := foldl_add Account.spent (Account.resolve p) (chargedPart p (·.funded) (·.price)) (fun a e => by
    cases p with
    | forgive => rfl
    | charge => cases funded : e.funded <;> simp [Account.resolve, chargedPart, funded]) l a
  have rest := foldl_with (Account.resolve p) (fun a k => { a with draws := k.draws, spent := k.spent, live := k.live })
    (fun _ => rfl) (fun a k e => by
    cases p with
    | forgive => rfl
    | charge => cases funded : e.funded <;> simp [Account.resolve, funded]) l a
  have sessions := foldl_with (Account.resolve p) (fun a k => { k with live := { k.live with sessions := a.live.sessions } })
    (fun _ => rfl) (fun a k e => by
    cases p with
    | forgive => rfl
    | charge => cases funded : e.funded <;> simp [Account.resolve, PeriodRecord.addSheet, funded]) l a
  rw [draws, spent] at rest
  refine ⟨rest, fun c => foldl_count (fun a => a.live.sides[c]) _ _ (fun a e => ?_) l a,
    foldl_count (fun a => a.live.amount) _ _ (fun a e => ?_) l a, (congrArg (fun a : Account => a.live.sessions) sessions :)⟩
  · cases p with
    | forgive => simp [Account.resolve, chargedPart]
    | charge =>
      cases funded : e.funded with
      | false => simp [Account.resolve, chargedPart, funded]
      | true =>
        simp only [Account.resolve, PeriodRecord.addSheet, chargedPart, funded, if_true, Bool.true_and]
        exact count_update _ _ _ _
  · cases p with
    | forgive => simp [Account.resolve, chargedPart]
    | charge => cases funded : e.funded <;> simp [Account.resolve, PeriodRecord.addSheet, chargedPart, funded]

/-- R42: what is left of the draw of an account session's job. -/
theorem Job.draw_foldl_resolve (j : Job) : ((l.foldl (Job.resolve true p) j).draw.getD 0) =
    j.draw.getD 0 - (l.map (chargedPart p (·.funded) (·.price))).sum := by
  refine foldl_sub (fun j => j.draw.getD 0) _ _ (fun j e => ?_) l j
  cases p with
  | forgive => rfl
  | charge =>
    simp only [Job.resolve, Job.deliver_eq, Bool.true_and, chargedPart, if_true]
    cases funded : e.funded <;> cases drawn : j.draw <;> simp [drawn]

end

/-! ### Abandonment -/

theorem Notices.occur_pending (n : Notices) (c : NoticeClass) (x : Option Station) : (n.occur c x).pending[c.index] = true ∧
    (n.occur c x).lastStation[c.index] = x := by
  unfold Notices.occur
  dsimp only
  split_ifs <;> simp_all

theorem Notices.occur_pending_ne (n : Notices) {c k : NoticeClass} (h : k.index ≠ c.index) (x : Option Station) :
    (n.occur c x).pending[k.index] = n.pending[k.index] ∧ (n.occur c x).lastStation[k.index] = n.lastStation[k.index] := by
  have apart : c.index.val ≠ k.index.val := fun e => h (Fin.ext e.symm)
  unfold Notices.occur
  dsimp only
  split_ifs <;> simp [Vector.getElem_set_ne _ _ apart]

/-- R150, R154: a frame toward a station is noticed at most under LINK. -/
theorem Device.notices_send (d : Device) (st : Station) (f : StationFrame) :
    (d.send st f).notices = d.notices ∨ (d.send st f).notices = d.notices.occur .link (some st) := by
  unfold Device.send
  split_ifs
  · exact .inl rfl
  · exact .inr rfl
  · exact .inl rfl

theorem Device.notices_enterOpen (d : Device) (st : Station) : (d.enterOpen st).notices = d.notices ∨
    (d.enterOpen st).notices = d.notices.occur .link (some st) := by
  unfold Device.enterOpen
  exact Device.notices_send _ st _

section
variable {d : Device} {st : Station} {s : Session} {j : Job}

/-- R67, R70: the part when the path list of an abandoned job has been resolved and the job has ended. -/
theorem Device.abandonJob_opened (session : (d.ctx st).session = some s) (job : (d.ctx st).job = some j)
    (pending : (d.ctx st).endPending = none) :
    let p := d.configs[st].jamPolicy
    let k := (d.path st).foldl (Session.resolve p) s
    let left := (d.path st).foldl (Job.resolve s.funding.isAccount p) j
    (d.resolveAll st).JobOpened (d.abandonJob st) st k .abandoned (left.draw.getD 0) ∧
      (d.abandonJob st).notices.pending[NoticeClass.jamAbandoned.index] = true ∧
      (d.abandonJob st).notices.lastStation[NoticeClass.jamAbandoned.index] = some st := by
  intro p k left
  have done := Device.resolveAll_resolved session
  have job' : ((d.resolveAll st).ctx st).job = some left := by rw [done.ctx, job]; rfl
  have session' : ((d.resolveAll st).ctx st).session = some k := by rw [done.ctx]
  have pending' : ((d.resolveAll st).ctx st).endPending = none := by rw [done.ctx]; exact pending
  have ended := (Device.endJob_ended job' .abandoned true).notice .jamAbandoned (some st)
  have step : d.abandonJob st =
      (((d.resolveAll st).endJob st .abandoned true).notice .jamAbandoned (some st)).enterOpen st := by
    rw [Device.abandonJob, job]
    exact Device.afterJob_of_open (ended.endPending.trans pending') (by simp) (by simp)
  rw [step]
  generalize (d.resolveAll st).endJob st .abandoned true = x at ended
  have noticed := Notices.occur_pending x.notices .jamAbandoned (some st)
  refine ⟨ended.opened session', ?_⟩
  obtain notices | notices := Device.notices_enterOpen (x.notice .jamAbandoned (some st)) st
  · rw [notices]; exact noticed
  · have other := Notices.occur_pending_ne (x.notice .jamAbandoned (some st)).notices (c := .link) (k := .jamAbandoned)
      (by decide) (some st)
    rw [notices]
    exact ⟨other.1.trans noticed.1, other.2.trans noticed.2⟩

end

/-- Settles O31. -/
theorem jobTimersRunOut : Obligations.JobTimersRunOut := by
  intro d q st s j works session job pending opened ended
  refine ⟨fun held timer => ?_, fun jammed timer distinct => ?_⟩
  · rw [exec_waitTimerExpiry q works held timer]
    have steady := Device.Steady.finishJob d st .funds
    have idle := Device.SheetsResolved.nil (p := .charge) session
    have opens : (d.endJob st .funds true).fundingSpent st = false →
        d.JobOpened (d.finishJob st .funds) st s .funds (j.draw.getD 0) := fun more =>
      Device.finishJob_opened session job pending (by simp) (by simp [more])
    have closes : (d.endJob st .funds true).fundingSpent st = true → d.HasRoom st →
        d.JobClosed (d.finishJob st .funds) st s .funds .fundsEnded (j.draw.getD 0) := fun spent room =>
      Device.finishJob_closed session job (by simp) room
        (Device.afterJob_of_spent ((Device.endJob_ended job .funds true).endPending.trans pending) spent)
    have endedOf : d.JobClosed (d.finishJob st .funds) st s .funds .fundsEnded (j.draw.getD 0) →
        ended (d.finishJob st .funds) := fun h =>
      ⟨h.state, h.session, h.job, by rw [h.port, Device.port_send, Device.port_send], h.reports, h.others⟩
    refine ⟨fun ref card => ?_, fun n a account known asked => ?_⟩
    · have spent := Device.fundingSpent_endJob_of_card (r := .funds) session job card
      refine ⟨fun more => ?_, fun refused room => ?_⟩
      · have h := opens (spent.trans more)
        obtain ⟨port, accounts, -, -⟩ := h.card ref card
        exact ⟨_, rfl, h.openAgain idle (.refl d st) steady pending port, h.session.trans session, h.rest.path st,
          h.rest.paymentsSame steady, accounts⟩
      · exact ⟨_, rfl, endedOf (closes (spent.trans refused) room)⟩
    · have spent := Device.fundingSpent_endJob_of_account (r := .funds) session job account known asked
      refine ⟨fun more => ?_, fun stopped room => ?_⟩
      · have h := opens (spent.trans (by simpa using more))
        obtain ⟨-, b, returned, port⟩ := h.account n a account known asked
        exact ⟨_, b, rfl, h.openAgain idle (.refl d st) steady pending port, h.session.trans session, h.rest.path st,
          h.rest.paymentsSame steady, returned⟩
      · have h := closes (spent.trans (by simpa using stopped)) room
        obtain ⟨b, returned⟩ := h.account n a account known asked
        exact ⟨_, b, rfl, endedOf h, returned⟩
  · intro charge total ofClass paid resolved
    have run : exec (.jamTimerExpiry st) ⟨d, q⟩ = .next ⟨d.abandonJob st, q⟩ := by
      have state : (d.ctx st).state.isJammed = true := by
        simp only [List.mem_cons, List.not_mem_nil, or_false] at jammed
        rcases jammed with h | h | h <;> rw [h] <;> rfl
      exact (State.onDevice_running d q _ works).trans (by rw [Device.takeJamExpiry, if_pos ⟨state, timer⟩])
    have done := Device.resolveAll_resolved session
    obtain ⟨h, pendingNotice, lastStation⟩ := Device.abandonJob_opened session job pending
    have steady := Device.Steady.abandonJob d st
    have others := Device.OthersSame.resolveAll d st
    have sums : ∀ kind f, ((d.path st).map (chargedPart d.configs[st].jamPolicy kind f)).sum =
        if charge then total kind f else 0 :=
      fun kind f => sum_chargedPart _ kind f _
    have meters : ((d.abandonJob st).ctx st).meters =
        (d.path st).foldl (Meters.resolve d.configs[st].jamPolicy) (d.ctx st).meters := by
      rw [h.ctx, done.ctx]
      simp [Meters.jobEnded]
    have isResolved : resolved (d.abandonJob st) := by
      obtain ⟨sides, restMeters⟩ := Meters.foldl_resolve d.configs[st].jamPolicy (d.path st) (d.ctx st).meters
      obtain ⟨k_sides, amount, short, shortSides, forgiven, rest⟩ := Session.foldl_resolve d.configs[st].jamPolicy (d.path st) s
      refine ⟨run, (h.rest.path st).trans (d.path_resolveAll st), pendingNotice, lastStation, ?_, fun c => ?_, _, ?_,
        fun c => ?_, ?_, ?_, ?_, ?_, rest⟩
      · rw [meters]; exact restMeters
      · rw [meters, sides c, sums]
      · rw [h.ctx, done.ctx]
      · rw [k_sides c, sums]
      · rw [amount, sums]
      · rw [short, sums]
      · rw [shortSides, sums]
      · rw [forgiven]
    have funding : ((d.path st).foldl (Session.resolve d.configs[st].jamPolicy) s).funding = s.funding := by
      obtain ⟨-, -, -, -, -, rest⟩ := Session.foldl_resolve d.configs[st].jamPolicy (d.path st) s
      exact (congrArg Session.funding rest :)
    refine ⟨fun ref card => ?_, fun n a account known asked => ?_⟩
    · obtain ⟨accounts, slot, otherSlots⟩ := done.card ref card
      obtain ⟨port, accounts', -, -⟩ := h.card ref (funding.trans card)
      rw [slot, Slot.foldl_resolve, sums] at port
      have slot' : (d.abandonJob st).slot ref.slot = _ := (h.rest.slot ref.slot).trans slot
      rw [Slot.foldl_resolve, sums, sum_provisional] at slot'
      exact ⟨_, isResolved, h.openAgain done others steady pending port, slot',
        fun i hi => (h.rest.slot i).trans (otherSlots i hi), accounts'.trans accounts⟩
    · obtain ⟨slots, entries⟩ := done.account n account
      obtain ⟨entry, otherEntries⟩ := entries asked
      obtain ⟨asked', mail⟩ := done.mail (.inr asked)
      rw [known, Option.map_some] at entry
      obtain ⟨-, b, returned, port⟩ := h.account n _ (funding.trans account) entry (asked'.trans asked)
      obtain ⟨whole, sides, amount, sessions⟩ := Account.foldl_resolve d.configs[st].jamPolicy (d.path st) a
      have left := Job.draw_foldl_resolve d.configs[st].jamPolicy (d.path st) j
      rw [account] at returned
      have mails : ∀ x, ((d.resolveAll st).ctx x).accountMail = (d.ctx x).accountMail := fun x => by
        by_cases hx : x = st
        · subst hx; exact mail
        · rw [(others x hx).1]
      have returned' := returned.of_before otherEntries done.mgmt mails
      rw [Funding.isAccount, left, sums, whole, sums] at returned'
      refine ⟨_, b, _, isResolved, h.openAgain done others steady pending port, fun c => ?_, ?_, sessions,
        ⟨h.rest.slots.trans slots, h.rest.payQueue.trans done.payQueue, h.rest.outstanding.trans done.outstanding,
          steady.staleVoids, h.rest.payReports.trans done.payReports⟩, returned'⟩
      · rw [sides c, sums]
      · rw [amount, sums]

end Sys2Proof.Machine
end

section
/-! PROOF. STOP (O30). -/

namespace Sys2Proof.Machine

section
variable {d : Device} {st : Station} {s : Session} {j : Job}

/-- R49: a job that waits for no grant is marked alone. -/
theorem Device.setStop_of_not_waiting (job : (d.ctx st).job = some j) (request : j.fundsRequest ≠ .waiting) :
    d.setStop st = d.modJob st fun j => { j with stopPending := true } := by
  unfold Device.setStop
  split
  · rename_i waiting
    rw [job] at waiting
    exact absurd (congrArg Job.fundsRequest (Option.some.inj waiting)) request
  · rfl

theorem Device.setStop_of_card {ref : SlotRef} (session : (d.ctx st).session = some s) (card : s.funding = .card ref) :
    d.setStop st = d.modJob st fun j => { j with stopPending := true } := by
  obtain ⟨_, _⟩ := s
  subst card
  unfold Device.setStop
  rw [session]

/-- R49: a job that waits for a grant leaves the waiting list. -/
theorem Device.setStop_of_waiting {n : Nat} (session : (d.ctx st).session = some s) (account : s.funding = .account n)
    (job : (d.ctx st).job = some j) (request : j.fundsRequest = .waiting) (asked : (d.ctx st).refillAsked = none) :
    d.setStop st = (d.modJob st fun j => { j with stopPending := true, fundsRequest := .none }).modAccount n fun a =>
      a.dropWaiter st := by
  obtain ⟨_, _⟩ := s
  obtain ⟨_, _⟩ := j
  subst account request
  unfold Device.setStop
  rw [session, job]
  exact Device.leaveWaiting_of_none (by rw [Device.modJob, Device.ctx_modCtx]; exact asked)

theorem Device.path_setStop : (d.setStop st).path st = d.path st := by
  unfold Device.setStop
  split
  · exact (Device.TableActs.leaveWaiting _ st _).path st
  · rfl

/-- R49: with sheets on the path a STOP in RUNNING and HELD waits for them; in JAMMED it waits for the CLEAR. -/
theorem Device.takeStop_sets (job : (d.ctx st).job = some j) (fresh : j.stopPending = false)
    (h : ((d.ctx st).state ∈ [StationState.running, .held] ∧ d.path st ≠ []) ∨ ∃ r, (d.ctx st).state = .jammed r) :
    d.takeStop st = d.setStop st := by
  simp only [Device.takeStop, job, fresh, Bool.false_eq_true, if_false]
  obtain ⟨state, path⟩ | ⟨r, state⟩ := h
  · have left : (d.setStop st).pathEmpty st = false := by simpa [Device.pathEmpty, Device.path_setStop] using path
    simp only [List.mem_cons, List.not_mem_nil, or_false] at state
    rcases state with h | h <;> simp [h, left]
  · rw [state]

/-- R23: in CLOSING a STOP marks the job. -/
theorem Device.takeStop_of_closing (job : (d.ctx st).job = some j) (fresh : j.stopPending = false)
    (state : (d.ctx st).state = .closing) : d.takeStop st = d.modJob st fun j => { j with stopPending := true } := by
  simp [Device.takeStop, job, fresh, state]

/-- R49: with nothing on the path a STOP in RUNNING and HELD ends the job. -/
theorem Device.takeStop_ends (job : (d.ctx st).job = some j) (fresh : j.stopPending = false)
    (state : (d.ctx st).state ∈ [StationState.running, .held]) (path : d.path st = [])
    (incomplete : (d.setStop st).complete st = false) : d.takeStop st = (d.setStop st).finishJob st .stopped := by
  have empty : (d.setStop st).pathEmpty st = true := by simp [Device.pathEmpty, Device.path_setStop, path]
  simp only [List.mem_cons, List.not_mem_nil, or_false] at state
  rcases state with h | h <;> simp [Device.takeStop, job, fresh, h, empty, incomplete]

end

/-- What a STOP that ends its job leaves at the station, and what it leaves alone; `told` is the part after JOB_END. -/
def Device.StoppedOpen (d told t : Device) (st : Station) (balance : Nat) : Prop :=
  t.ctx st = { d.ctx st with
    state := .opened, job := none, dozeTimer := none, idleTimer := some d.mgmt.params.idleTime
    waitTimer := none, jamTimer := none, accountMail := (t.ctx st).accountMail } ∧
  t.port st = (told.send st (.balance balance)).port st ∧ t.path st = [] ∧ d.OthersSameButMail t st ∧
  d.PaymentsSame t ∧ t.exporting = d.exporting ∧ d.SetupSame t ∧ d.UplinkSame t ∧ t.tariff = d.tariff

/-- The part `x` is `d` with its job marked; the job has ended as stopped and the station has entered OPEN. -/
theorem Device.JobOpened.stoppedOpen {d x t told : Device} {st : Station} {s : Session} {k : Job} {draw balance : Nat}
    (h : x.JobOpened t st s .stopped draw) (ctx : x.ctx st = { d.ctx st with job := some k })
    (others : d.OthersSame x st) (rest : d.LinesOnly x) (steady : d.Steady t) (path : d.path st = [])
    (asked : (t.ctx st).refillAsked = (x.ctx st).refillAsked)
    (port : t.port st = ((x.port st).queued (.jobEnd .stopped)).queued (.balance balance))
    (sent : told.port st = (x.port st).queued (.jobEnd .stopped)) : d.StoppedOpen told t st balance := by
  have lines := rest.trans h.rest
  refine ⟨?_, ?_, (lines.path st).trans path, (Device.OthersSameButMail.of_othersSame others).trans h.others,
    ⟨lines.slots, lines.payQueue, lines.outstanding, steady.staleVoids, lines.payReports⟩, steady.exporting,
    steady.setupSame, steady.uplinkSame lines.reports, lines.tariff⟩
  · rw [h.ctx, asked, ctx, rest.mgmt]
    simp [Meters.jobEnded]
  · rw [port, Device.port_send, sent]

theorem accountMail_modJob (d : Device) (st x : Station) (f : Job → Job) :
    ((d.modJob st f).ctx x).accountMail = (d.ctx x).accountMail := by
  by_cases hx : x = st
  · subst hx; rw [Device.modJob, Device.ctx_modCtx]
  · rw [Device.modJob, Device.ctx_modCtx_ne _ _ _ _ hx]

/-- R92: a station that has left the list already leaves nothing more when its job ends. -/
theorem Device.DrawReturned.of_dropWaiter {d t : Device} {st : Station} {n : Nat} {a b : Account} {draw : Nat}
    (h : d.DrawReturned t st n (a.dropWaiter st) b draw) : d.DrawReturned t st n a b draw := by
  have twice : (a.dropWaiter st).waiting.filter (fun w => w.station ≠ st) = a.waiting.filter fun w => w.station ≠ st := by
    simp [Account.dropWaiter, List.filter_filter]
  unfold Device.DrawReturned at h ⊢
  rw [twice] at h
  exact h

/-- Settles O30. -/
theorem stopIsTaken : Obligations.StopIsTaken := by
  intro d q st h
  have taken := fun hd => exec_stop q h hd
  have awakeOf : (d.ctx st).state ≠ .idle → (d.ctx st).state ≠ .opened → d.awake st = d.heard st := d.awake_eq_heard st
  have jammed_of : (d.ctx st).state ≠ .closing →
      (d.ctx st).state ∈ [StationState.closing, .jammed .running, .jammed .held, .jammed .closing] →
      ∃ r, (d.ctx st).state = .jammed r := fun notClosing state => by
    simp only [List.mem_cons, List.not_mem_nil, or_false] at state
    rcases state with e | e | e | e
    · exact absurd e notClosing
    all_goals exact ⟨_, e⟩
  refine ⟨fun hd job => ?_, fun j hd job stopping => ?_, fun j job fresh state => ⟨fun request => ?_,
    fun s n notClosing waiting session account asked => ?_⟩, fun s j state session job fresh path more pending => ?_⟩
  · rw [taken hd, Device.takeStop, Device.job_awake, job]
  · rw [taken hd, Device.takeStop, Device.job_awake, job]
    simp [stopping]
  · have heard : d.awake st = d.heard st := awakeOf (by rintro e; simp [e] at state) (by rintro e; simp [e] at state)
    rw [taken (by rintro e; simp [e] at state), heard]
    by_cases closing : (d.ctx st).state = .closing
    · rw [(d.heard st).takeStop_of_closing job fresh closing]
    · have request' : j.fundsRequest ≠ .waiting := request.resolve_left closing
      rw [Device.takeStop_sets (d := d.heard st) job fresh, Device.setStop_of_not_waiting (d := d.heard st) job request']
      exact state.imp_right (jammed_of closing)
  · have heard : d.awake st = d.heard st := awakeOf (by rintro e; simp [e] at state) (by rintro e; simp [e] at state)
    rw [taken (by rintro e; simp [e] at state), heard, Device.takeStop_sets (d := d.heard st) job fresh,
      Device.setStop_of_waiting (d := d.heard st) session account job waiting asked]
    · rfl
    · exact state.imp_right (jammed_of notClosing)
  · intro told opened
    let y := d.heard st
    have notDoze : (d.ctx st).state ≠ .doze := by rintro e; simp [e] at state
    have heard : d.awake st = y := awakeOf (by rintro e; simp [e] at state) (by rintro e; simp [e] at state)
    have run : ∀ x k, y.setStop st = x → x.ctx st = { d.ctx st with job := some k } → k.outer = j.outer →
        exec (.stop st) ⟨d, q⟩ = .next ⟨(x.finishJob st .stopped).transmit st, q⟩ ∧
        x.JobOpened (x.finishJob st .stopped) st s .stopped (k.draw.getD 0) := by
      intro x k set ctx outer
      have incomplete : (y.setStop st).complete st = false := by simp [Device.complete, set, ctx, outer, more]
      rw [taken notDoze, heard, Device.takeStop_ends (d := y) job fresh state path incomplete, set]
      exact ⟨rfl, Device.finishJob_opened (by rw [ctx]; exact session) (by rw [ctx]) (by rw [ctx]; exact pending) (by simp)
        (by simp)⟩
    refine ⟨fun ref card => ?_, fun n a account known asked => ?_⟩
    · let x := y.modJob st fun j => { j with stopPending := true }
      have ctx : x.ctx st = { d.ctx st with job := some { j with stopPending := true } } := by
        simp [x, y, Device.modJob, job]
      have others : d.OthersSame x st := (Device.OthersSame.heard d st).trans (.modCtx y st _)
      have steady : d.Steady (x.finishJob st .stopped) :=
        ((Device.Steady.heard d st).trans (.modJob y st _)).trans (.finishJob x st .stopped)
      obtain ⟨ran, h⟩ := run x _ (Device.setStop_of_card (d := y) session card) ctx rfl
      obtain ⟨port, accounts, same, asked⟩ := h.card ref card
      refine ⟨_, ⟨ran, h.stoppedOpen ctx others (.of_eq rfl) steady path asked port ?_⟩, accounts, others.trans same⟩
      exact y.port_send st _
    · have finish : ∀ x k a', y.setStop st = x → x.ctx st = { d.ctx st with job := some k } →
          k.outer = j.outer → k.draw = j.draw → d.OthersSame x st → d.LinesOnly x → d.Steady x →
          x.port st = y.port st → x.account n = some a' →
          (∀ t b, x.DrawReturned t st n a' b (j.draw.getD 0) → d.DrawReturned t st n a b (j.draw.getD 0)) →
          ∃ (t : Device) (b : Account), opened t (b.limit - b.spent - b.draws) ∧
            d.DrawReturned t st n a b (j.draw.getD 0) := by
        intro x k a' set ctx outer draw others lines steady line entry returned
        obtain ⟨ran, h⟩ := run x k set ctx outer
        have xAsked : (x.ctx st).refillAsked = none := by rw [ctx]; exact asked
        obtain ⟨asked', b, given, port⟩ := h.account n a' account entry xAsked
        rw [draw] at given
        refine ⟨_, b, ⟨ran, h.stoppedOpen ctx others lines (steady.trans (.finishJob x st .stopped)) path
          (asked'.trans xAsked.symm) port ?_⟩, returned _ b given⟩
        rw [line]; exact y.port_send st _
      by_cases waiting : j.fundsRequest = .waiting
      · refine finish _ { j with stopPending := true, fundsRequest := .none } (a.dropWaiter st)
          (Device.setStop_of_waiting (d := y) session account job waiting asked) ?_ rfl rfl
          ((Device.OthersSame.heard d st).trans ((Device.OthersSame.modCtx y st _).trans (.modAccount _ st n _))) (.of_eq rfl)
          (((Device.Steady.heard d st).trans (.modJob y st _)).trans (.modAccount _ n _)) rfl ?_ ?_
        · simp [y, Device.modJob, job]
        · have entry := (y.modJob st fun j => { j with stopPending := true, fundsRequest := .none }).account_modAccount n
            (fun a => a.dropWaiter st) fun _ => rfl
          have known' : (y.modJob st fun j => { j with stopPending := true, fundsRequest := .none }).account n = some a := known
          rw [known'] at entry
          exact entry
        · intro t b given
          refine (given.of_before (e := d) (fun m hm => ?_) rfl fun x => ?_).of_dropWaiter
          · exact Device.account_modAccount_ne _ n m (fun a => a.dropWaiter st) (fun _ => rfl) hm
          · exact accountMail_modJob y st x _
      · refine finish _ { j with stopPending := true } a (Device.setStop_of_not_waiting (d := y) job waiting) ?_ rfl rfl
          ((Device.OthersSame.heard d st).trans (.modCtx y st _)) (.of_eq rfl)
          ((Device.Steady.heard d st).trans (.modJob y st _)) rfl known ?_
        · simp [y, Device.modJob, job]
        · exact fun t b given => given.of_before (fun _ _ => rfl) rfl fun x => accountMail_modJob y st x _

end Sys2Proof.Machine
end

section
/-! PROOF. EXIT of the last sheet (O27). -/

namespace Sys2Proof.Machine

section
variable {d : Device} {st : Station} {j : Job} {r : EndReason} {last : Bool}

/-- R44: the job is complete when its last sheet has left the list. -/
theorem Device.afterExit_of_complete (job : (d.ctx st).job = some j) (outer : j.outer = 0) (path : d.path st = []) (before : Nat) :
    d.afterExit st before = d.finishJob st .complete := by
  have complete : d.complete st = true := by simp [Device.complete, Device.pathEmpty, job, outer, path]
  rw [Device.afterExit, job]
  simp [complete]

/-- R22: end pending, or else the last job's flag, ends the session of a completed job. -/
theorem Device.afterJob_of_ends (h : (d.ctx st).endPending.or (if last then some .auto else none) = some r) :
    d.afterJob st .complete last = d.endSession st r := by
  cases pending : (d.ctx st).endPending with
  | some e =>
    rw [pending, Option.some_or] at h
    rw [Device.afterJob_of_endPending pending, Option.some.inj h]
  | none =>
    rw [pending, Option.none_or] at h
    cases last with
    | false => simp at h
    | true =>
      obtain rfl : EndReason.auto = r := by simpa using h
      rw [Device.afterJob, pending]
      simp

end

/-- R42: a sheet delivered within its job's count. -/
theorem Job.resolve_last {j : Job} {e : PathEntry} (account : Bool) (own : e.surplus = false) (inner : j.inner ≤ 1)
    (outer : j.outer = 1) : (j.resolve account .charge e).outer = 0 ∧ (j.resolve account .charge e).lastJob = j.lastJob := by
  cases charged : (account && e.funded) <;> simp [Job.resolve, Job.deliver_eq, own, inner, outer, charged]

theorem Session.report_funding_of_card {s : Session} {ref : SlotRef} (h : s.funding = .card ref) (d : Device) (st : Station)
    (r : EndReason) : (s.report d st r).funding = .card (d.slot ref.slot).reference := by
  simp only [Session.report, h]

theorem Session.report_funding_of_account {s : Session} {n : Nat} (h : s.funding = .account n) (d : Device) (st : Station)
    (r : EndReason) : (s.report d st r).funding = .account n := by
  simp only [Session.report, h]

/-- Settles O27. -/
theorem lastExitCompletesJob : Obligations.LastExitCompletesJob := by
  intro d q st s j e h state session job path funded own inner outer run ends cls told amount ended opened closed waits
  have notDoze : (d.ctx st).state ≠ .doze := by rintro e; simp [e] at state
  let y := d.heard st
  have heard : d.awake st = y :=
    d.awake_eq_heard st (by rintro e; simp [e] at state) (by rintro e; simp [e] at state)
  let x := y.outcomeDelivered st e
  let k := s.commit e
  let left := j.resolve s.funding.isAccount .charge e
  have done : y.SheetsResolved x st s .charge [e] := Device.resolveEntry_resolved .charge e session
  have others : d.OthersSame x st := (Device.OthersSame.heard d st).trans (.resolveEntry y st .charge e)
  obtain ⟨outer', last'⟩ := Job.resolve_last s.funding.isAccount own inner outer
  have xSession : (x.ctx st).session = some k := by
    rw [done.ctx]
    simp [Session.resolve, funded, k]
  have xJob : (x.ctx st).job = some left := by
    rw [done.ctx]
    simp [y, job, left]
  have xPending : (x.ctx st).endPending = (d.ctx st).endPending := by rw [done.ctx]; rfl
  have xMeters : (x.ctx st).meters = (d.ctx st).meters.countSides e := by rw [done.ctx]; rfl
  have xPath : x.path st = [] := Device.path_outcomeDelivered (d := y) (front := []) (back := []) path (by simp)
  have ran : run = .next ⟨(x.finishJob st .complete).transmit st, q⟩ := by
    have exit := Device.takeExit_of_entry (d := y) (front := []) (back := []) state job path (by simp)
    rw [Device.afterExit_of_complete xJob outer' xPath] at exit
    exact (exec_exit q h notDoze e.ordinal).trans (by rw [heard, exit])
  let t := x.finishJob st .complete
  have lines : x.reports = d.reports ∧ x.mgmt = d.mgmt ∧ x.port st = y.port st := ⟨done.reports, done.mgmt, done.port st⟩
  obtain ⟨reports, mgmt, port⟩ := lines
  have isEnded : (t.ctx st).job = none → (t.ctx st).meters = (x.ctx st).meters.jobEnded .complete → t.path st = x.path st →
      x.OthersSameButMail t st → ended t := fun jobGone meters paths same =>
    ⟨ran, jobGone, paths.trans xPath, by rw [meters, xMeters]; rfl, (Device.OthersSameButMail.of_othersSame others).trans same⟩
  -- R22: the three things that can follow, whatever the funding.
  have opens : ends = none → x.JobOpened t st k .complete (left.draw.getD 0) ∧ ended t ∧ ∀ balance,
      t.port st = ((x.port st).queued (.jobEnd .complete)).queued (.balance balance) → opened t balance := fun none => by
    obtain ⟨pending, noFlag⟩ := Option.or_eq_none_iff.mp none
    have flag : left.lastJob = false := by rw [last']; simpa using noFlag
    have h := Device.finishJob_opened (r := .complete) xSession xJob (xPending.trans pending) (by simp [flag]) (by simp)
    refine ⟨h, isEnded (by rw [h.ctx]) (by rw [h.ctx]) (h.rest.path st) h.others, fun balance sent => ⟨by rw [h.ctx], ?_, ?_, ?_,
      h.rest.reports.trans reports⟩⟩
    · rw [h.ctx, xSession]; rfl
    · rw [h.ctx, mgmt]
    · rw [sent, port, Device.port_send, Device.port_send]
  have follows : ∀ r, ends = some r →
      (x.endJob st .complete true).afterJob st .complete left.lastJob = (x.endJob st .complete true).endSession st r :=
    fun r some => Device.afterJob_of_ends (by
      rw [(Device.endJob_ended xJob .complete true).endPending, xPending, last']; exact some)
  have closes : ∀ r, ends = some r → r ≠ .carrier → d.HasRoom st → x.JobClosed t st k .complete r (left.draw.getD 0) ∧
      ended t ∧ closed t r (k.report x st r).funding := fun r some notLost room => by
    have h := Device.finishJob_closed xSession xJob notLost (by rw [Device.HasRoom, reports]; exact room) (follows r some)
    refine ⟨h, isEnded h.job h.meters h.path h.others, h.state, h.session, ?_, k.report x st r, ?_, rfl, rfl, rfl, rfl⟩
    · rw [h.port, port, Device.port_send, Device.port_send]
    · rw [h.reports, reports]
  have stays : ∀ r, ends = some r → ¬ d.HasRoom st → x.JobWaits t st k .complete r (left.draw.getD 0) ∧ ended t ∧ waits t r :=
    fun r some full => by
    have h := Device.finishJob_waits xSession xJob (by rw [Device.HasRoom, reports]; exact full) (follows r some)
    refine ⟨h, isEnded h.job h.meters (h.rest.path st) h.others, h.state, h.endPending, ?_, ?_, h.rest.reports.trans reports⟩
    · rw [h.session]; rfl
    · rw [h.port, port, Device.port_send]
  refine ⟨fun ref card => ?_, fun n a account known asked => ?_⟩
  · intro slot spent
    obtain ⟨-, xSlot, -⟩ := done.card ref card
    have xSlot : x.slot ref.slot = spent := by rw [xSlot]; simp [Slot.resolve, funded, spent, slot, y]
    refine ⟨fun none => ?_, fun r some notLost => ⟨fun room => ?_, fun full => ?_⟩⟩
    · obtain ⟨h, isEnded, isOpened⟩ := opens none
      obtain ⟨sent, -⟩ := h.card ref card
      rw [xSlot] at sent
      exact ⟨t, isEnded, isOpened _ sent, (h.rest.slot ref.slot).trans xSlot⟩
    · obtain ⟨h, isEnded, isClosed⟩ := closes r some notLost room
      have funding : (k.report x st r).funding = .card slot.reference := by
        rw [Session.report_funding_of_card (s := k) card, xSlot]
      rw [funding] at isClosed
      refine ⟨t, isEnded, isClosed, fun standing => ?_⟩
      rw [h.card ref card (by rw [xSlot]; exact standing), xSlot]
    · obtain ⟨h, isEnded, isWaiting⟩ := stays r some full
      exact ⟨t, isEnded, isWaiting, (h.rest.slot ref.slot).trans xSlot⟩
  · intro drawn spent
    obtain ⟨-, entries⟩ := done.account n account
    obtain ⟨entry, otherEntries⟩ := entries asked
    obtain ⟨asked', mail⟩ := done.mail (.inr asked)
    have known' : y.account n = some a := known
    have xEntry : x.account n = some spent := by
      rw [entry, known']
      simp [Account.resolve, funded, spent, PeriodRecord.addSheet, update, cls]
    have xAsked : (x.ctx st).refillAsked = none := asked'.trans asked
    have draw : left.draw.getD 0 = drawn := by
      cases took : j.draw <;> simp [left, drawn, Job.resolve, account, Funding.isAccount, funded, Job.deliver_eq, took]
    have mails : ∀ z, (x.ctx z).accountMail = (d.ctx z).accountMail := fun z => by
      by_cases hz : z = st
      · subst hz; exact mail
      · rw [(others z hz).1]
    have returnedOf : ∀ a' b, x.DrawReturned t st n a' b (left.draw.getD 0) → d.DrawReturned t st n a' b drawn :=
      fun a' b given => by
        rw [draw] at given
        exact given.of_before otherEntries mgmt mails
    refine ⟨fun none => ?_, fun r some notLost => ⟨fun room => ?_, fun full => ?_⟩⟩
    · obtain ⟨h, isEnded, isOpened⟩ := opens none
      obtain ⟨-, b, given, sent⟩ := h.account n spent account xEntry xAsked
      exact ⟨t, b, isEnded, isOpened _ sent, returnedOf _ b given⟩
    · obtain ⟨h, isEnded, isClosed⟩ := closes r some notLost room
      obtain ⟨b, given⟩ := h.account n spent account xEntry xAsked
      rw [Session.report_funding_of_account (s := k) account] at isClosed
      exact ⟨t, b, isEnded, isClosed, returnedOf _ b given⟩
    · obtain ⟨h, isEnded, isWaiting⟩ := stays r some full
      obtain ⟨b, given⟩ := h.account n spent account xEntry xAsked
      exact ⟨t, b, isEnded, isWaiting, returnedOf _ b given⟩

end Sys2Proof.Machine
end

section
/-! PROOF. The loss of a session's funding (O42). -/

namespace Sys2Proof.Machine

/-- R51, R64: a job whose session has lost its funding waits for none any more. -/
def Job.unfunded (j : Job) : Job := { j with
  fundsRequest := if j.fundsRequest = .waiting ∨ j.fundsRequest = .renew then .none else j.fundsRequest }

theorem Job.dropRequest_eq (j : Job) : j.dropRequest = j.unfunded := by
  unfold Job.dropRequest Job.unfunded
  split <;> rename_i h
  · rw [if_pos (.inl h)]
  · rw [if_pos (.inr h)]
  · rename_i notWaiting
    rw [if_neg (not_or.mpr ⟨notWaiting, h⟩)]

/-- R31, R51: the part when a RUNNING or HELD station has lost its funding and entered CLOSING. -/
def Device.fundsLost (d : Device) (st : Station) (r : EndReason) : Device :=
  (((d.send st (.pause .funds)).enter st .closing).modJob st fun j => { j.unfunded with allowance := 0 }).modCtx st fun c =>
    { c with endPending := some (c.endPending.getD r) }

section
variable {d : Device} {st : Station} {r : EndReason}

theorem Device.fundsLost_eq : (((d.setEndPending st r).sendPause st .funds).enter st .closing).modJob st Job.dropRequest =
    d.fundsLost st r := by
  simp only [Device.fundsLost, Device.setEndPending, Device.sendPause, Device.enter, Device.modJob, Device.send_modCtx,
    Device.modCtx_modCtx]
  refine Device.modCtx_congr _ _ _ _ ?_
  simp [Job.dropRequest_eq, Job.unfunded, Function.comp_def]

theorem Device.loseFunding_of_opened (h : (d.ctx st).state = .opened) : d.loseFunding st r = d.endSession st r := by
  rw [Device.loseFunding, h]

theorem Device.loseFunding_of_closing (h : (d.ctx st).state = .closing) : d.loseFunding st r = d := by
  rw [Device.loseFunding, h]

/-- R64: in JAMMED the resume state becomes CLOSING. -/
theorem Device.loseFunding_of_jammed {x : Resume} (h : (d.ctx st).state = .jammed x) : d.loseFunding st r =
    (d.modJob st Job.unfunded).modCtx st fun c => { c with
      state := .jammed .closing, endPending := some (c.endPending.getD r) } := by
  rw [Device.loseFunding, h]
  simp only [Device.setEndPending, Device.modJob, Device.modCtx_modCtx]
  refine Device.modCtx_congr _ _ _ _ ?_
  simp [funext Job.dropRequest_eq]

theorem Device.path_fundsLost (x : Station) : (d.fundsLost st r).path x = d.path x := by
  simp [Device.fundsLost, Device.enter, Device.modJob]

/-- R51: with sheets on the path the station waits for them in CLOSING. -/
theorem Device.loseFunding_of_path (h : (d.ctx st).state = .running ∨ (d.ctx st).state = .held) (path : d.path st ≠ []) :
    d.loseFunding st r = d.fundsLost st r := by
  have left : (d.fundsLost st r).pathEmpty st = false := by simpa [Device.pathEmpty, Device.path_fundsLost] using path
  rcases h with h | h <;> simp [Device.loseFunding, h, Device.fundsLost_eq, left]

/-- R51: with nothing on the path the job ends at once. -/
theorem Device.loseFunding_drains (h : (d.ctx st).state = .running ∨ (d.ctx st).state = .held) (path : d.path st = []) :
    d.loseFunding st r = (d.fundsLost st r).drain st := by
  have empty : (d.fundsLost st r).pathEmpty st = true := by simp [Device.pathEmpty, Device.path_fundsLost, path]
  rcases h with h | h <;> simp [Device.loseFunding, h, Device.fundsLost_eq, empty]

theorem Device.ctx_fundsLost : (d.fundsLost st r).ctx st = { d.ctx st with
    state := .closing, job := (d.ctx st).job.map fun j => { j.unfunded with allowance := 0 }
    endPending := some ((d.ctx st).endPending.getD r), dozeTimer := none, idleTimer := none, waitTimer := none
    jamTimer := none } := by
  simp [Device.fundsLost, Device.enter, Device.modJob]

theorem Device.port_fundsLost : (d.fundsLost st r).port st = (d.port st).queued (.pause .funds) := by
  simp [Device.fundsLost, Device.enter, Device.modJob]

theorem Device.fundsLost_lines : d.LinesOnly (d.fundsLost st r) :=
  (Device.LinesOnly.of_eq (d.send_rest st _)).trans (.of_eq rfl)

theorem Device.accounts_fundsLost : (d.fundsLost st r).accounts = d.accounts := by
  simp [Device.fundsLost, Device.enter, Device.modJob]

theorem Device.account_fundsLost (m : Nat) : (d.fundsLost st r).account m = d.account m :=
  Device.account_of_accounts Device.accounts_fundsLost m

theorem Device.OthersSame.fundsLost (d : Device) (st : Station) (r : EndReason) : d.OthersSame (d.fundsLost st r) st :=
  (((Device.OthersSame.send d st _).trans (.modCtx _ st _)).trans (.modCtx _ st _)).trans (.modCtx _ st _)

theorem Device.accountMail_fundsLost (x : Station) : ((d.fundsLost st r).ctx x).accountMail = (d.ctx x).accountMail := by
  by_cases hx : x = st
  · subst hx; rw [Device.ctx_fundsLost]
  · rw [(Device.OthersSame.fundsLost d st r x hx).1]

theorem Context.cardRef_of_card {c : Context} {s : Session} {ref : SlotRef} (session : c.session = some s)
    (card : s.funding = .card ref) : c.cardRef = some ref := by
  obtain ⟨_, _⟩ := s
  subst card
  rw [Context.cardRef, session]

theorem Context.fundedBy_of_account {c : Context} {s : Session} {n : Nat} (session : c.session = some s)
    (account : s.funding = .account n) : c.fundedBy n = true := by
  rw [Context.fundedBy, session]
  simp [account]

/-- R23, R51: the reason of a job that ends in CLOSING with nothing on its path. -/
def Job.drainReason (j : Job) : JobEndReason := if j.outer = 0 then .complete else if j.stopPending then .stopped else .funds

theorem Device.drain_fundsLost {j : Job} (job : (d.ctx st).job = some j) (path : d.path st = []) :
    (d.fundsLost st r).drain st = (d.fundsLost st r).finishJob st j.drainReason := by
  have job' : ((d.fundsLost st r).ctx st).job = some { j.unfunded with allowance := 0 } := by rw [Device.ctx_fundsLost, job]; rfl
  have empty : (d.fundsLost st r).pathEmpty st = true := by simp [Device.pathEmpty, Device.path_fundsLost, path]
  have reason : (d.fundsLost st r).drainReason st = j.drainReason := by
    simp [Device.drainReason, Device.complete, job', empty, Job.drainReason, Job.unfunded]
  rw [Device.drain, reason]

end

/-- What the loss of funding leaves of a job with nothing on its path, and of its session: the session is over, or waits for room
for its report. -/
structure Device.Drained (d taken t : Device) (st : Station) (s : Session) (j : Job) (r : EndReason) (idle : Bool) : Prop where
  job : (t.ctx st).job = none
  path : t.path st = []
  others : d.OthersSameButMail t st
  meters : (t.ctx st).meters = { (d.ctx st).meters with
    jobsCompleted := (d.ctx st).meters.jobsCompleted + if j.outer = 0 then 1 else 0 }
  isIdle : idle = true → (t.ctx st).state = .idle ∧ (t.ctx st).session = none ∧ (t.ctx st).endPending = none ∧
    t.reports = d.reports ++ [s.report d st r] ∧
    t.port st = (((taken.send st (.pause .funds)).send st (.jobEnd j.drainReason)).send st (.sessionEnd r)).port st
  isClosing : idle = false → (t.ctx st).state = .closing ∧ (t.ctx st).session = some s ∧ (t.ctx st).endPending = some r ∧
    t.reports = d.reports ∧ t.port st = ((taken.send st (.pause .funds)).send st (.jobEnd j.drainReason)).port st

theorem Meters.jobEnded_drainReason (m : Meters) (j : Job) : m.jobEnded j.drainReason = { m with
    jobsCompleted := m.jobsCompleted + if j.outer = 0 then 1 else 0 } := by
  have complete : j.drainReason = .complete ↔ j.outer = 0 := by
    unfold Job.drainReason
    split_ifs <;> simp_all
  simp only [Meters.jobEnded, complete]

/-- `x` is `d` after a message about the loss has been taken. -/
structure Device.LossTaken (d x : Device) (st : Station) : Prop where
  ctx : x.ctx st = { d.ctx st with accountMail := (x.ctx st).accountMail }
  others : d.OthersSame x st
  path : x.path st = d.path st
  reports : x.reports = d.reports
  slots : x.slots = d.slots

section
variable {d x : Device} {st : Station} {s : Session} {r : EndReason}

theorem Device.LossTaken.outcome (h : d.LossTaken x st) (session : (d.ctx st).session = some s) (notLost : r ≠ .carrier) :
    ((d.ctx st).state = .opened → d.HasRoom st → x.SessionClosed (x.loseFunding st r) st s r) ∧
    ((d.ctx st).state = .opened → ¬ d.HasRoom st →
      x.loseFunding st r = (x.enter st .closing).modCtx st fun c => { c with endPending := some r }) ∧
    ((d.ctx st).state = .running ∨ (d.ctx st).state = .held → d.path st ≠ [] → x.loseFunding st r = x.fundsLost st r) ∧
    (∀ y, (d.ctx st).state = .jammed y → x.loseFunding st r = (x.modJob st Job.unfunded).modCtx st fun c => { c with
      state := .jammed .closing, endPending := some (c.endPending.getD r) }) ∧
    ((d.ctx st).state = .closing → x.loseFunding st r = x) := by
  have state : (x.ctx st).state = (d.ctx st).state := by rw [h.ctx]
  have room : x.HasRoom st ↔ d.HasRoom st := by rw [Device.HasRoom, h.reports]
  refine ⟨fun opened fits => ?_, fun opened full => ?_, fun job path => ?_, fun y jammed => ?_, fun closing => ?_⟩
  · rw [Device.loseFunding_of_opened (state.trans opened), Device.endSession_of_room (room.mpr fits)]
    exact Device.closeOut_closed (by rw [h.ctx]; exact session) notLost
  · rw [Device.loseFunding_of_opened (state.trans opened), Device.endSession_of_full (room.not.mpr full)]
  · exact Device.loseFunding_of_path (by rw [state]; exact job) (by rw [h.path]; exact path)
  · exact Device.loseFunding_of_jammed (state.trans jammed)
  · exact Device.loseFunding_of_closing (state.trans closing)

/-- R22, R51, R94: with nothing on the path the job ends, and with it the session if its report finds room. -/
theorem Device.LossTaken.drained {j : Job} (h : d.LossTaken x st) (session : (d.ctx st).session = some s)
    (job : (d.ctx st).job = some j) (state : (d.ctx st).state = .running ∨ (d.ctx st).state = .held) (path : d.path st = []) :
    let e := (d.ctx st).endPending.getD r
    (e ≠ .carrier → d.HasRoom st →
      (x.fundsLost st r).JobClosed (x.loseFunding st r) st s j.drainReason e (j.draw.getD 0) ∧
        d.Drained x (x.loseFunding st r) st s j e true) ∧
    (¬ d.HasRoom st →
      (x.fundsLost st r).JobWaits (x.loseFunding st r) st s j.drainReason e (j.draw.getD 0) ∧
        d.Drained x (x.loseFunding st r) st s j e false) := by
  intro e
  have xJob : (x.ctx st).job = some j := by rw [h.ctx]; exact job
  have xPath : x.path st = [] := h.path.trans path
  have ctx := Device.ctx_fundsLost (d := x) (st := st) (r := r)
  have port := Device.port_fundsLost (d := x) (st := st) (r := r)
  have lines := Device.fundsLost_lines (d := x) (st := st) (r := r)
  have others := h.others.trans (Device.OthersSame.fundsLost x st r)
  have step : x.loseFunding st r = (x.fundsLost st r).finishJob st j.drainReason :=
    (Device.loseFunding_drains (by rw [h.ctx]; exact state) xPath).trans (Device.drain_fundsLost xJob xPath)
  rw [step]
  generalize x.fundsLost st r = z at ctx port lines others
  have zJob : (z.ctx st).job = some { j.unfunded with allowance := 0 } := by rw [ctx, xJob]; rfl
  have zSession : (z.ctx st).session = some s := by rw [ctx, h.ctx]; exact session
  have zPending : (z.ctx st).endPending = some e := by rw [ctx, h.ctx]
  have zMeters : (z.ctx st).meters = (d.ctx st).meters := by rw [ctx, h.ctx]
  have reports : z.reports = d.reports := lines.reports.trans h.reports
  have slots : z.slots = d.slots := lines.slots.trans h.slots
  have ends := Device.afterJob_of_endPending
    ((Device.endJob_ended zJob j.drainReason true).endPending.trans zPending) j.drainReason j.lastJob
  refine ⟨fun notLost fits => ?_, fun full => ?_⟩
  · have closed := Device.finishJob_closed zSession zJob notLost (by rw [Device.HasRoom, reports]; exact fits) ends
    refine ⟨closed, closed.job, (closed.path.trans (lines.path st)).trans xPath,
      (Device.OthersSameButMail.of_othersSame others).trans closed.others, ?_, fun _ => ⟨closed.state, closed.session,
      closed.endPending, ?_, ?_⟩, fun idle => nomatch idle⟩
    · rw [closed.meters, zMeters, Meters.jobEnded_drainReason]
    · rw [closed.reports, reports, Session.report_of_slots s st e slots]
    · rw [closed.port, port, Device.port_send, Device.port_send, Device.port_send]
  · have waits := Device.finishJob_waits zSession zJob (by rw [Device.HasRoom, reports]; exact full) ends
    refine ⟨waits, waits.job, ((waits.rest.path st).trans (lines.path st)).trans xPath,
      (Device.OthersSameButMail.of_othersSame others).trans waits.others, ?_, (fun idle => nomatch idle),
      fun _ => ⟨waits.state, waits.session, waits.endPending, waits.rest.reports.trans reports, ?_⟩⟩
    · rw [waits.meters, zMeters, Meters.jobEnded_drainReason]
    · rw [waits.port, port, Device.port_send, Device.port_send]

end

/-- Settles O42. -/
theorem fundingIsLost : Obligations.FundingIsLost := by
  intro d q st s works session dropped drained outcome
  have outcomeOf : ∀ (c : Instr) (x : Device) (r : EndReason), d.LossTaken x st → r ≠ .carrier →
      exec c ⟨d, q⟩ = .next ⟨x.loseFunding st r, q⟩ → outcome c x r := fun c x r taken notLost run => by
    obtain ⟨closes, waits, lost, jammed, closing⟩ := taken.outcome session notLost
    exact ⟨fun opened fits => ⟨_, run, closes opened fits⟩, fun opened full => by rw [run, waits opened full],
      fun _ _ state path => by rw [run, lost state path]; rfl, fun _ y _ state => by rw [run, jammed y state]; rfl,
      fun state => by rw [run, closing state]⟩
  have drainedOf : ∀ (c : Instr) (x t : Device) (j : Job) (r : EndReason) (idle : Bool), exec c ⟨d, q⟩ = .next ⟨t, q⟩ →
      d.Drained x t st s j r idle → drained c x t j r idle := fun c x t j r idle run h =>
    ⟨run, h.job, h.path, h.others, h.meters, h.isIdle, h.isClosing⟩
  refine ⟨fun ref rest card head => ?_, fun n rest account head => ?_⟩
  · intro taken
    have loss : d.LossTaken taken st := ⟨rfl, .of_eq rfl rfl rfl, rfl, rfl, rfl⟩
    have run : exec (.holdExpiryReport st) ⟨d, q⟩ = .next ⟨taken.loseFunding st .holdExpired, q⟩ := by
      refine (State.onDevice_running d q _ works).trans ?_
      rw [Device.takeReport_of_head head, Device.takeExpiry, if_pos (Context.cardRef_of_card (c := taken.ctx st) session card)]
    refine ⟨outcomeOf _ taken _ loss (by simp) run, fun j job state path => ?_⟩
    intro r
    obtain ⟨closes, waits⟩ := loss.drained (r := .holdExpired) session job state path
    refine ⟨fun notLost fits => ?_, fun notLost full => ?_⟩
    · obtain ⟨closed, left⟩ := closes notLost fits
      refine ⟨_, drainedOf _ taken _ j r true run left, fun expired => ?_⟩
      have slot : (taken.fundsLost st .holdExpired).slot ref.slot = d.slot ref.slot := Device.fundsLost_lines.slot ref.slot
      rw [closed.card ref card (by rw [slot]; exact .inr expired), slot]
    · obtain ⟨waiting, left⟩ := waits full
      exact ⟨_, drainedOf _ taken _ j r false run left, waiting.rest.slots.trans Device.fundsLost_lines.slots,
        (waiting.card ref card).trans Device.accounts_fundsLost⟩
  · intro taken
    have ctx : taken.ctx st = { d.ctx st with accountMail := rest } := d.ctx_modCtx st _
    have loss : d.LossTaken taken st := ⟨by rw [ctx], .modCtx d st _, rfl, rfl, rfl⟩
    have run : exec (.accountCloseReport st) ⟨d, q⟩ = .next ⟨taken.loseFunding st .accountClosed, q⟩ := by
      have funded : (taken.ctx st).fundedBy n = true := by rw [ctx]; exact Context.fundedBy_of_account session account
      have dropped : d.dropMail st = taken := Device.modCtx_congr _ _ _ _ (by rw [head]; rfl)
      refine (State.onDevice_running d q _ works).trans ?_
      rw [Device.takeCloseReport, head]
      simp only
      rw [dropped, if_pos funded]
    refine ⟨outcomeOf _ taken _ loss (by simp) run, fun j a job state path asked known => ?_⟩
    intro r
    obtain ⟨closes, waits⟩ := loss.drained (r := .accountClosed) session job state path
    have zAsked : ((taken.fundsLost st .accountClosed).ctx st).refillAsked = none := by
      rw [Device.ctx_fundsLost, ctx]; exact asked
    have zKnown : (taken.fundsLost st .accountClosed).account n = some a := by rw [Device.account_fundsLost]; exact known
    have returnedOf : ∀ (t : Device) a' b, (taken.fundsLost st .accountClosed).DrawReturned t st n a' b (j.draw.getD 0) →
        taken.DrawReturned t st n a' b (j.draw.getD 0) := fun t a' b given =>
      given.of_before (fun m _ => Device.account_fundsLost m) Device.fundsLost_lines.mgmt Device.accountMail_fundsLost
    refine ⟨fun notLost fits => ?_, fun notLost full => ?_⟩
    · obtain ⟨closed, left⟩ := closes notLost fits
      obtain ⟨b, given⟩ := closed.account n a account zKnown zAsked
      exact ⟨_, b, drainedOf _ taken _ j r true run left, returnedOf _ _ b given⟩
    · obtain ⟨waiting, left⟩ := waits full
      obtain ⟨b, given⟩ := waiting.account n a account zKnown zAsked
      exact ⟨_, b, drainedOf _ taken _ j r false run left, returnedOf _ _ b given⟩

end Sys2Proof.Machine
end

section
/-! PROOF. Teardown of a session: loss of carrier (O9). -/

namespace Sys2Proof.Machine

/-- R24, R145: a report that finds room is placed, one that does not is a fault of its station. -/
def Device.placeOrDrop (d : Device) (st : Station) (r : EndReason) : Device :=
  if d.reportRoom st then d.placeReport st r else d.uplinkDropFault st

section
variable (d : Device) (st : Station) (r : EndReason)

theorem Device.placeOrDrop_lines : (d.placeOrDrop st r).paths = d.paths ∧ (d.placeOrDrop st r).ports = d.ports := by
  unfold Device.placeOrDrop Device.placeReport
  split
  · split <;> exact ⟨rfl, rfl⟩
  · exact ⟨rfl, rfl⟩

theorem Device.OthersSame.placeOrDrop : d.OthersSame (d.placeOrDrop st r) st := by
  unfold Device.placeOrDrop
  split
  · exact d.othersSame_placeReport st r
  · exact (Device.OthersSame.modCtx d st _).trans (.notice _ st _ _)

theorem Device.finalizeTorn_eq : d.finalizeTorn st r = ((d.resolveAll st).placeOrDrop st r).closeSession st r := rfl

theorem Device.OthersSameButMail.finalizeTorn : d.OthersSameButMail (d.finalizeTorn st r) st :=
  (Device.OthersSameButMail.of_othersSame ((Device.OthersSame.resolveAll d st).trans (.placeOrDrop _ st r))).trans
    (.closeSession _ st r)

/-- R24, R71: nothing is left on the path of a session torn down. -/
theorem Device.path_finalizeTorn : (d.finalizeTorn st r).path st = [] := by
  have paths := (Device.paths_closeSession ((d.resolveAll st).placeOrDrop st r) st r).trans
    (Device.placeOrDrop_lines (d.resolveAll st) st r).1
  exact (congrArg (·[st]) paths).trans (d.path_resolveAll st)

theorem Device.port_finalizeTorn : (d.finalizeTorn st r).port st =
    if r = .carrier then d.port st else (d.port st).queued (.sessionEnd r) := by
  have port : ((d.resolveAll st).placeOrDrop st r).port st = d.port st :=
    congrArg (·[st]) ((Device.placeOrDrop_lines _ st r).2.trans (d.ports_resolveAll st))
  rw [Device.finalizeTorn_eq, Device.port_closeSession, port]

/-- R24: nothing is left of a session torn down. -/
theorem Device.ctx_finalizeTorn : ((d.finalizeTorn st r).ctx st).session = none ∧ ((d.finalizeTorn st r).ctx st).job = none ∧
    ((d.finalizeTorn st r).ctx st).endPending = none := by
  have ctx := Device.ctx_closeSession ((d.resolveAll st).placeOrDrop st r) st r
  rw [Device.finalizeTorn_eq]
  generalize ((d.resolveAll st).placeOrDrop st r).closeSession st r = t at ctx ⊢
  rw [ctx]
  exact ⟨rfl, rfl, rfl⟩

/-- R10, R71: the part of a teardown before the session's: its job, if it has one, is lost. -/
def Device.loseJob (d : Device) (st : Station) (r : EndReason) : Device :=
  if (d.ctx st).state = .opened then d else (d.resolveAll st).endJob st .lost (r ≠ .carrier)

/-- R10: a station with a session is torn down. -/
theorem Device.teardown_of_session {d : Device} {st : Station} (h : (d.ctx st).state ∈
    [StationState.opened, .running, .held, .closing, .jammed .running, .jammed .held, .jammed .closing]) (r : EndReason) :
    d.teardown st r = (d.loseJob st r).finalizeTorn st r := by
  simp only [List.mem_cons, List.not_mem_nil, or_false] at h
  rcases h with e | e | e | e | e | e | e <;> simp [Device.teardown, Device.loseJob, e]

theorem Device.endJob_of_none {d : Device} {st : Station} (h : (d.ctx st).job = none) (r : JobEndReason) (tell : Bool) :
    d.endJob st r tell = d := by
  rw [Device.endJob, h]

theorem Device.OthersSameButMail.loseJob : d.OthersSameButMail (d.loseJob st r) st := by
  unfold Device.loseJob
  split
  · exact .refl d st
  · refine (Device.OthersSameButMail.of_othersSame (.resolveAll d st)).trans ?_
    cases job : ((d.resolveAll st).ctx st).job with
    | none => rw [Device.endJob_of_none job]; exact .refl _ st
    | some j => exact (Device.endJob_ended job .lost _).others

/-- R10: a station whose carrier is lost is not told. -/
theorem Device.port_loseJob_carrier : (d.loseJob st .carrier).port st = d.port st := by
  have same : (d.resolveAll st).port st = d.port st := congrArg (·[st]) (d.ports_resolveAll st)
  unfold Device.loseJob
  split
  · rfl
  · cases job : ((d.resolveAll st).ctx st).job with
    | none => rw [Device.endJob_of_none job]; exact same
    | some j =>
      have port := (Device.endJob_ended job .lost (decide (EndReason.carrier ≠ .carrier))).port
      exact port.trans (by simpa using same)

end

theorem Device.port_carrierLost (d : Device) (st : Station) : (d.carrierLost st).port st = Port.powerOn false :=
  ({ d with carrierDetect := d.carrierDetect.set st false } : Device).port_modPort st Port.loseCarrier

/-- The loss of a station's carrier touches the carrier input, the port and the notice unit. -/
theorem Device.carrierLost_rest (d : Device) (st : Station) : d.carrierLost st = { d with
    carrierDetect := (d.carrierLost st).carrierDetect, ports := (d.carrierLost st).ports
    notices := (d.carrierLost st).notices } := rfl

/-- R6, R71: what a teardown for want of carrier leaves of a session. -/
theorem Device.teardown_carrier {d : Device} {st : Station} (h : (d.ctx st).state ∈
    [StationState.opened, .running, .held, .closing, .jammed .running, .jammed .held, .jammed .closing]) :
    ((d.teardown st .carrier).ctx st).session = none ∧ ((d.teardown st .carrier).ctx st).job = none ∧
    ((d.teardown st .carrier).ctx st).endPending = none ∧ (d.teardown st .carrier).path st = [] ∧
    (d.teardown st .carrier).port st = d.port st ∧ d.OthersSameButMail (d.teardown st .carrier) st := by
  rw [Device.teardown_of_session h]
  obtain ⟨session, job, pending⟩ := Device.ctx_finalizeTorn (d.loseJob st .carrier) st .carrier
  refine ⟨session, job, pending, Device.path_finalizeTorn _ st _, ?_, (Device.OthersSameButMail.loseJob d st _).trans
    (.finalizeTorn _ st _)⟩
  rw [Device.port_finalizeTorn, if_pos rfl, Device.port_loseJob_carrier]

theorem Device.OthersSame.carrierLost (d : Device) (st : Station) : d.OthersSame (d.carrierLost st) st :=
  ((Device.OthersSame.of_eq rfl rfl rfl).trans (.modPort { d with carrierDetect := d.carrierDetect.set st false } st
    Port.loseCarrier)).trans (.notice _ st _ _)

/-- Settles O9. -/
theorem carrierLossTearsSessionDown : Obligations.CarrierLossTearsSessionDown := by
  intro d q st works present state
  have away : ∀ r, ((d.carrierLost st).ctx st).state ≠ .offline r := by
    rintro r e
    rw [Device.ctx_carrierLost] at e
    simp [e] at state
  have run := exec_stationCarrierLoss d q st works present
  rw [Device.contextCarrierLoss_of_not_offline away] at run
  have lost := Device.OthersSame.carrierLost d st
  have line := Device.port_carrierLost d st
  obtain ⟨session, job, pending, path, port, others⟩ := Device.teardown_carrier (d := d.carrierLost st) (st := st)
    (by rw [Device.ctx_carrierLost]; exact state)
  have steady := Device.Steady.teardown (d.carrierLost st) st .carrier
  have rest := d.carrierLost_rest st
  generalize d.carrierLost st = x at *
  generalize x.teardown st .carrier = w at *
  refine ⟨w.enter st (.offline .carrier), run, ?_, ?_, ?_, ?_, ?_, ?_, ?_, ?_, path, port.trans line, fun z hz => ?_,
    steady.configs.trans ?_, steady.mgmt.trans ?_, steady.uplink.trans ?_, steady.exporting.trans ?_⟩
  case refine_9 => exact ⟨(others z hz).2.1.trans (lost z hz).2.1, (others z hz).2.2.trans (lost z hz).2.2⟩
  case refine_10 => rw [rest]
  case refine_11 => rw [rest]
  case refine_12 => rw [rest]
  case refine_13 => rw [rest]
  all_goals rw [Device.enter, Device.ctx_modCtx]
  · exact session
  · exact job
  · exact pending

end Sys2Proof.Machine
end

section
/-! PROOF. STATION_SERVICE and STATION_RESET (O53). -/

namespace Sys2Proof.Machine

/-- What a teardown for RESET or OUT_OF_SERVICE leaves of a session (R10, R24, R71): `d` is the part before, `t` afterwards. -/
structure Device.Torn (d t : Device) (st : Station) (r : EndReason) : Prop where
  session : (t.ctx st).session = none
  job : (t.ctx st).job = none
  endPending : (t.ctx st).endPending = none
  path : t.path st = []
  port : t.port st = ((if (d.ctx st).job = none then d else d.send st (.jobEnd .lost)).send st (.sessionEnd r)).port st
  placed : d.HasRoom st → ∃ x, t.reports = d.reports ++ [x] ∧ x.station = st ∧ x.endReason = r
  dropped : ¬ d.HasRoom st → t.reports = d.reports ∧ (t.ctx st).faults.uplinkDrop = true
  others : d.OthersSameButMail t st

section
variable {d : Device} {st : Station} {s : Session} {r : EndReason}

/-- R10: the job of a session torn down, if it has one, is lost, and the session record stays. -/
theorem Device.loseJob_spec (session : (d.ctx st).session = some s) (opened : (d.ctx st).state = .opened → (d.ctx st).job = none)
    (told : r ≠ .carrier) : (∃ k, ((d.loseJob st r).ctx st).session = some k) ∧ (d.loseJob st r).reports = d.reports ∧
    (d.loseJob st r).port st = (if (d.ctx st).job = none then d else d.send st (.jobEnd .lost)).port st := by
  unfold Device.loseJob
  split
  · rename_i state
    exact ⟨⟨s, session⟩, rfl, by rw [if_pos (opened state)]⟩
  · have done := Device.resolveAll_resolved session
    cases job : (d.ctx st).job with
    | none =>
      have none : ((d.resolveAll st).ctx st).job = none := by rw [done.ctx, job]; rfl
      rw [Device.endJob_of_none none, if_pos rfl]
      exact ⟨⟨_, by rw [done.ctx]⟩, done.reports, done.port st⟩
    | some j =>
      have ended := Device.endJob_ended (d := d.resolveAll st) (st := st) (by rw [done.ctx, job]; rfl) .lost (decide (r ≠ .carrier))
      refine ⟨⟨_, ended.session.trans (by rw [done.ctx])⟩, ended.rest.reports.trans done.reports, ?_⟩
      rw [ended.port, if_pos (by simpa using told), if_neg (by simp), Device.port_send, done.port]

/-- R24, R145: the report of a session torn down. -/
theorem Device.reports_finalizeTorn (session : (d.ctx st).session = some s) :
    (d.HasRoom st → ∃ x, (d.finalizeTorn st r).reports = d.reports ++ [x] ∧ x.station = st ∧ x.endReason = r) ∧
    (¬ d.HasRoom st → (d.finalizeTorn st r).reports = d.reports ∧ ((d.finalizeTorn st r).ctx st).faults.uplinkDrop = true) := by
  have done := Device.resolveAll_resolved session
  obtain ⟨k, session'⟩ : ∃ k, ((d.resolveAll st).ctx st).session = some k := ⟨_, by rw [done.ctx]⟩
  have room : (d.resolveAll st).HasRoom st ↔ d.HasRoom st := by rw [Device.HasRoom, done.reports]
  rw [Device.finalizeTorn_eq, Device.placeOrDrop]
  refine ⟨fun fits => ?_, fun full => ?_⟩
  · rw [if_pos (Device.reportRoom_iff.mpr (room.mpr fits)), Device.placeReport_of_session session']
    have shut := Device.closeSession_shut
      (d := { d.resolveAll st with reports := (d.resolveAll st).reports ++ [k.report (d.resolveAll st) st r] }) session' r
    refine ⟨k.report (d.resolveAll st) st r, ?_, rfl, rfl⟩
    exact (congrArg Device.reports shut.rest).trans (by rw [done.reports])
  · rw [if_neg (fun fits => full (room.mp (Device.reportRoom_iff.mp fits)))]
    have ctx : ((d.resolveAll st).uplinkDropFault st).ctx st = { (d.resolveAll st).ctx st with
        faults := { ((d.resolveAll st).ctx st).faults with uplinkDrop := true } } := by
      simp [Device.uplinkDropFault, Device.modFaults]
    have shut := Device.closeSession_shut (d := (d.resolveAll st).uplinkDropFault st) (by rw [ctx]; exact session') r
    have closed := Device.ctx_closeSession ((d.resolveAll st).uplinkDropFault st) st r
    exact ⟨(congrArg Device.reports shut.rest :).trans done.reports, by rw [closed, ctx]⟩

theorem Device.teardown_torn (session : (d.ctx st).session = some s) (opened : (d.ctx st).state = .opened → (d.ctx st).job = none)
    (state : (d.ctx st).state ∈
      [StationState.opened, .running, .held, .closing, .jammed .running, .jammed .held, .jammed .closing])
    (told : r ≠ .carrier) : d.Torn (d.teardown st r) st r := by
  rw [Device.teardown_of_session state]
  obtain ⟨⟨k, kept⟩, reports, port⟩ := Device.loseJob_spec session opened told
  have lost := Device.OthersSameButMail.loseJob d st r
  obtain ⟨gone, jobGone, pendingGone⟩ := Device.ctx_finalizeTorn (d.loseJob st r) st r
  obtain ⟨placed, dropped⟩ := Device.reports_finalizeTorn (r := r) kept
  have room : (d.loseJob st r).HasRoom st ↔ d.HasRoom st := by rw [Device.HasRoom, reports]
  refine ⟨gone, jobGone, pendingGone, Device.path_finalizeTorn _ st r, ?_, fun fits => ?_, fun full => ?_,
    lost.trans (.finalizeTorn _ st r)⟩
  · rw [Device.port_finalizeTorn, if_neg told, port, Device.port_send]
  · rw [← reports]; exact placed (room.mpr fits)
  · rw [← reports]; exact dropped (room.not.mpr full)

end

/-- A station enters a state with its doze timer as given and its other timers stopped. -/
def Device.enterWith (d : Device) (st : Station) (s : StationState) (doze : Option Nat) : Device :=
  (d.enter st s).modCtx st fun c => { c with dozeTimer := doze }

theorem Device.enter_eq_enterWith (d : Device) (st : Station) (s : StationState) : d.enter st s = d.enterWith st s none := by
  refine (Device.modCtx_eq_self _ _ _ ?_).symm
  rw [Device.enter, Device.ctx_modCtx]

/-- R9: the state in which a station settles. -/
def Device.settledState (d : Device) (st : Station) : StationState :=
  if (d.port st).carrier then (if d.configs[st].inService then .idle else .offline .service) else .offline .carrier

theorem Device.settle_eq_enterWith (d : Device) (st : Station) : ∃ doze, d.settle st = d.enterWith st (d.settledState st) doze := by
  unfold Device.settle Device.settledState
  split
  · split
    · exact ⟨_, rfl⟩
    · exact ⟨none, d.enter_eq_enterWith st _⟩
  · exact ⟨none, d.enter_eq_enterWith st _⟩

section
variable (d : Device) (st : Station) (s : StationState) (doze : Option Nat)

theorem Device.ctx_enterWith : (d.enterWith st s doze).ctx st = { d.ctx st with
    state := s, dozeTimer := doze, idleTimer := none, waitTimer := none, jamTimer := none } := by
  simp [Device.enterWith, Device.enter]

/-- The entry to a state touches the station's context alone. -/
theorem Device.enterWith_rest : d.enterWith st s doze = { d with contexts := (d.enterWith st s doze).contexts } := rfl

theorem Device.OthersSame.enterWith : d.OthersSame (d.enterWith st s doze) st :=
  (Device.OthersSame.modCtx d st _).trans (.modCtx _ st _)

theorem Device.Steady.enterWith : d.Steady (d.enterWith st s doze) := (Device.Steady.enter d st s).trans (.modCtx _ st _)

end

theorem Device.PaymentsSame.send (d : Device) (st : Station) (f : StationFrame) : d.PaymentsSame (d.send st f) :=
  ⟨d.send_slots st f, d.send_payQueue st f, d.send_outstanding st f, d.send_staleVoids st f, d.send_payReports st f⟩

theorem Device.PaymentsSame.of_contexts {d w t : Device} {c : Vector Context 16} (h : d.PaymentsSame w)
    (rest : t = { w with contexts := c }) : d.PaymentsSame t := by
  subst rest
  exact h

/-! ### What a management request leaves of a station -/

/-- The part after a request has been taken off the input queue, and perhaps a station's record changed. -/
structure Device.AtRequest (d x : Device) : Prop where
  rest : x = { d with configs := x.configs, mgmt := x.mgmt }
  params : x.mgmt.params = d.mgmt.params

namespace Device.AtRequest

variable {d x : Device} (h : d.AtRequest x)
include h

theorem ctx (y : Station) : x.ctx y = d.ctx y := (congrArg (Device.ctx · y) h.rest :)
theorem path (y : Station) : x.path y = d.path y := (congrArg (Device.path · y) h.rest :)
theorem port (y : Station) : x.port y = d.port y := (congrArg (Device.port · y) h.rest :)
theorem slots : x.slots = d.slots := (congrArg Device.slots h.rest :)
theorem payQueue : x.payQueue = d.payQueue := (congrArg Device.payQueue h.rest :)
theorem outstanding : x.outstanding = d.outstanding := (congrArg Device.outstanding h.rest :)
theorem staleVoids : x.staleVoids = d.staleVoids := (congrArg Device.staleVoids h.rest :)
theorem payReports : x.payReports = d.payReports := (congrArg Device.payReports h.rest :)
theorem accounts : x.accounts = d.accounts := (congrArg Device.accounts h.rest :)
theorem exporting : x.exporting = d.exporting := (congrArg Device.exporting h.rest :)
theorem uplink : x.uplink = d.uplink := (congrArg Device.uplink h.rest :)
theorem reports : x.reports = d.reports := (congrArg Device.reports h.rest :)
theorem serviceUp : x.serviceUp = d.serviceUp := (congrArg Device.serviceUp h.rest :)
theorem tariff : x.tariff = d.tariff := (congrArg Device.tariff h.rest :)

theorem othersSame (st : Station) : d.OthersSame x st := fun y _ => ⟨h.ctx y, h.path y, h.port y⟩

theorem paymentsSame : x.PaymentsSame d :=
  ⟨h.slots.symm, h.payQueue.symm, h.outstanding.symm, h.staleVoids.symm, h.payReports.symm⟩

end Device.AtRequest

section
variable {d x : Device} {st : Station} {s : StationState} {doze : Option Nat} {r : EndReason}

/-- R10: a station in FUNDING gives its slot up and is told. -/
theorem Device.teardown_of_funding {ref : SlotRef} (h : (d.ctx st).state = .funding ref) (told : r ≠ .carrier) :
    d.teardown st r = (d.abandonSlot ref).send st (.cardDeclined .outOfService) := by
  simp [Device.teardown, h, told]

/-- R10, R119: what the teardown of a pending slot leaves, the station gone to the state `s`. -/
theorem Device.AtRequest.abandoned {ref : SlotRef} (h : d.AtRequest x) (funding : (d.ctx st).state = .funding ref)
    (told : r ≠ .carrier) :
    let t := (x.teardown st r).enterWith st s doze
    (t.ctx st).state = s ∧ (t.ctx st).session = (d.ctx st).session ∧ (t.ctx st).job = (d.ctx st).job ∧
      t.port st = (d.send st (.cardDeclined .outOfService)).port st ∧ d.SlotAbandoned t ref ∧ d.OthersSame t st ∧
      t.path st = d.path st ∧ d.BooksSame t ∧ d.UplinkSame t ∧ t.tariff = d.tariff ∧ t.configs = x.configs ∧
      t.mgmt = x.mgmt := by
  rw [Device.teardown_of_funding (by rw [h.ctx]; exact funding) told]
  let w := (x.abandonSlot ref).send st (.cardDeclined .outOfService)
  intro t
  have rest : t = { w with contexts := t.contexts } := w.enterWith_rest st s doze
  have ctx : t.ctx st = _ := w.ctx_enterWith st s doze
  have steady : x.Steady t := ((Device.Steady.abandonSlot x ref).trans (.send _ st _)).trans (.enterWith w st s doze)
  have others : x.OthersSame t st := ((Device.OthersSame.abandonSlot x st ref).trans (.send _ st _)).trans (.enterWith w st s doze)
  have payments : (x.abandonSlot ref).PaymentsSame t :=
    (Device.PaymentsSame.send (x.abandonSlot ref) st _).of_contexts rest
  have wCtx : w.ctx st = d.ctx st := by simp [w, h.ctx]
  refine ⟨by rw [ctx], by rw [ctx, wCtx], by rw [ctx, wCtx], ?_, ?_, (h.othersSame st).trans others, ?_, ⟨?_, ?_⟩,
    ⟨steady.uplink.trans h.uplink, ?_, steady.serviceUp.trans h.serviceUp⟩, ?_, steady.configs, steady.mgmt⟩
  · have port : t.port st = w.port st := by rw [rest]; rfl
    rw [port, Device.port_send, Device.abandonSlot_port, h.port, Device.port_send]
  · exact (x.abandonSlot_slotAbandoned ref).congr h.paymentsSame h.params.symm payments
  · have path : t.path st = w.path st := by rw [rest]; rfl
    rw [path, Device.send_path, Device.abandonSlot_path, h.path]
  · have accounts : t.accounts = w.accounts := by rw [rest]
    rw [accounts, Device.send_accounts, Device.abandonSlot_accounts, h.accounts]
  · exact steady.exporting.trans h.exporting
  · have reports : t.reports = w.reports := by rw [rest]
    rw [reports, Device.send_reports, Device.abandonSlot_reports, h.reports]
  · have tariff : t.tariff = w.tariff := by rw [rest]
    rw [tariff, Device.send_tariff, Device.abandonSlot_tariff, h.tariff]

/-- R10, R71: what the teardown of a session leaves, the station gone to the state `s`. -/
theorem Device.AtRequest.tornDown {k : Session} (h : d.AtRequest x) (session : (d.ctx st).session = some k)
    (opened : (d.ctx st).state = .opened → (d.ctx st).job = none)
    (state : (d.ctx st).state ∈
      [StationState.opened, .running, .held, .closing, .jammed .running, .jammed .held, .jammed .closing])
    (told : r ≠ .carrier) :
    let t := (x.teardown st r).enterWith st s doze
    (t.ctx st).state = s ∧ (t.ctx st).session = none ∧ (t.ctx st).job = none ∧ (t.ctx st).endPending = none ∧
      (t.ctx st).idleTimer = none ∧ (t.ctx st).waitTimer = none ∧ (t.ctx st).jamTimer = none ∧ t.path st = [] ∧
      t.port st = ((if (d.ctx st).job = none then d else d.send st (.jobEnd .lost)).send st (.sessionEnd r)).port st ∧
      (d.HasRoom st → ∃ x, t.reports = d.reports ++ [x] ∧ x.station = st ∧ x.endReason = r) ∧
      (¬ d.HasRoom st → t.reports = d.reports ∧ (t.ctx st).faults.uplinkDrop = true) ∧
      d.OthersSameButMail t st ∧ t.configs = x.configs ∧ t.mgmt = x.mgmt ∧ t.uplink = d.uplink ∧ t.exporting = d.exporting := by
  have torn : x.Torn (x.teardown st r) st r :=
    Device.teardown_torn (by rw [h.ctx]; exact session) (by rw [h.ctx]; exact opened) (by rw [h.ctx]; exact state) told
  have steady : x.Steady ((x.teardown st r).enterWith st s doze) :=
    (Device.Steady.teardown x st r).trans (.enterWith _ st s doze)
  generalize x.teardown st r = w at torn steady
  intro t
  have ctx : t.ctx st = _ := w.ctx_enterWith st s doze
  have room : x.HasRoom st ↔ d.HasRoom st := by rw [Device.HasRoom, h.reports]
  refine ⟨by rw [ctx], by rw [ctx]; exact torn.session, by rw [ctx]; exact torn.job, by rw [ctx]; exact torn.endPending,
    by rw [ctx], by rw [ctx], by rw [ctx], torn.path, ?_, fun fits => ?_, fun full => ?_, ?_, steady.configs, steady.mgmt,
    steady.uplink.trans h.uplink, steady.exporting.trans h.exporting⟩
  · refine torn.port.trans ?_
    rw [h.ctx]
    split
    · rw [Device.port_send, Device.port_send, h.port]
    · rw [Device.port_send, Device.port_send, Device.port_send, Device.port_send, h.port]
  · rw [← h.reports]; exact torn.placed (room.mpr fits)
  · obtain ⟨reports, drop⟩ := torn.dropped (room.not.mpr full)
    exact ⟨reports.trans h.reports, by rw [ctx]; exact drop⟩
  · exact ((Device.OthersSameButMail.of_othersSame (h.othersSame st)).trans torn.others).trans
      (.of_othersSame (.enterWith w st s doze))

end

/-! ### The two requests -/

/-- The part with a station's in-service flag as given. -/
def Device.serviced (d : Device) (st : Station) (b : Bool) : Device := d.modConfig st fun c => { c with inService := b }

section
variable {d : Device} {st : Station}

/-- R8: a station that is OFFLINE already stays so. -/
theorem Device.serviceOff_of_offline {r : OfflineReason} (h : (d.ctx st).state = .offline r) :
    d.serviceOff st = d.serviced st false := by
  have state : ((d.serviced st false).ctx st).state = .offline r := h
  rw [Device.serviceOff]
  rw [← Device.serviced, state]

/-- R8: any other station is torn down. -/
theorem Device.serviceOff_of_not_offline (h : ∀ r, (d.ctx st).state ≠ .offline r) :
    d.serviceOff st = ((d.serviced st false).teardown st .outOfService).enter st (.offline .service) := by
  have state : ∀ r, ((d.serviced st false).ctx st).state ≠ .offline r := h
  rw [Device.serviceOff]
  rw [← Device.serviced]
  split
  · rename_i r e; exact absurd e (state r)
  · rfl

/-- R8: a station back in service enters IDLE from OFFLINE(service) with its carrier present. -/
theorem Device.serviceOn_eq : d.serviceOn st =
    if (d.ctx st).state = .offline .service ∧ (d.port st).carrier = true then (d.serviced st true).enterIdle st
    else d.serviced st true := by
  have state : ((d.serviced st true).ctx st).state = (d.ctx st).state := rfl
  have port : (d.serviced st true).port st = d.port st := rfl
  rw [Device.serviceOn]
  rw [← Device.serviced, state, port]
  split
  · rename_i e; simp [e]
  · rename_i e; rw [if_neg fun offline => e offline.1]

/-- R9: a station that is not dozing is torn down for RESET. -/
theorem Device.resetStation_of_not_doze (h : (d.ctx st).state ≠ .doze) :
    d.resetStation st = (d.teardown st .reset).settle st := by
  unfold Device.resetStation
  split
  · rename_i e; exact absurd e h
  · rfl

end

/-- Settles O53. -/
theorem stationIsServicedAndReset : Obligations.StationIsServicedAndReset := by
  intro d q tag rest st number answered base serviced idled settles settled abandoned tornDown sessionStands
  have atBase : d.AtRequest base := ⟨rfl, rfl⟩
  have atServiced : ∀ b, d.AtRequest (base.serviced st b) := fun b => ⟨rfl, rfl⟩
  refine ⟨fun h => ?_, fun h => ?_, fun v high h => ?_, fun h => ?_⟩
  · have off : exec .stationService ⟨d, q⟩ = answered (base.serviceOff st) :=
      exec_answerStation q Device.answerStationService _ (readStation_ofNat st) rfl h rfl
    have torn := Device.serviceOff_of_not_offline (d := base) (st := st)
    refine ⟨fun nothing => ?_, fun r offline => ?_, fun ref funding => ?_, fun stands => ?_⟩
    · have state : ∀ r, (base.ctx st).state ≠ .offline r := by
        rintro r e; simp [show (d.ctx st).state = _ from e] at nothing
      have quiet : ((base.serviced st false).ctx st).state = .idle ∨ ((base.serviced st false).ctx st).state = .doze ∨
          ∃ r, ((base.serviced st false).ctx st).state = .offline r := nothing.imp_right .inl
      rw [off, torn state, Device.teardown_of_nothing quiet]
      rfl
    · rw [off, Device.serviceOff_of_offline (d := base) offline]
      rfl
    · have state : ∀ r, (base.ctx st).state ≠ .offline r := by
        rintro r e; simp [show (d.ctx st).state = _ from e] at funding
      refine ⟨_, off, ?_⟩
      rw [torn state, Device.enter_eq_enterWith]
      exact (atServiced false).abandoned funding (by simp)
    · obtain ⟨some, opened, state⟩ := stands
      obtain ⟨k, session⟩ := Option.ne_none_iff_exists'.mp some
      have away : ∀ r, (base.ctx st).state ≠ .offline r := by
        rintro r e; simp [show (d.ctx st).state = _ from e] at state
      refine ⟨_, off, ?_⟩
      rw [torn away, Device.enter_eq_enterWith]
      exact (atServiced false).tornDown session opened state (by simp)
  · have on : exec .stationService ⟨d, q⟩ = answered (base.serviceOn st) :=
      exec_answerStation q Device.answerStationService _ (readStation_ofNat st) rfl h rfl
    rw [on, Device.serviceOn_eq]
    refine ⟨fun state present => ?_, fun state absent => ?_, fun state => ?_⟩
    · rw [if_pos ⟨state, present⟩]
      rfl
    · rw [if_neg fun both => by simp [show (d.port st).carrier = true from both.2] at absent]
      rfl
    · rw [if_neg fun both => state both.1]
      rfl
  · have taken := exec_answerStation q Device.answerStationService _ (readStation_ofNat st) rfl h rfl
    have notOff : v ≠ 0#8 := by rintro rfl; simp at high
    have notOn : v ≠ 1#8 := by rintro rfl; simp at high
    refine taken.trans ?_
    simp only [List.getD_cons_succ, List.getD_cons_zero, notOff, notOn, if_false]
    rfl
  · have reset : exec .stationReset ⟨d, q⟩ = answered (base.resetStation st) :=
      exec_answerStation q Device.answerStationReset _ (readStation_ofNat st) rfl h rfl
    have settle : ∀ x : Device, (x.port st).carrier = (d.port st).carrier → x.configs = d.configs →
        x.mgmt.params = d.mgmt.params → x.settle st = settles x := fun x carrier configs params => by
      rw [Device.settle, carrier, configs, Device.enterIdle, params]
      rfl
    have resets : ((base.teardown st .reset).port st).carrier = (d.port st).carrier →
        ∃ doze, (base.teardown st .reset).settle st = (base.teardown st .reset).enterWith st settled doze := fun carrier => by
      have configs : (base.teardown st .reset).configs = d.configs := (Device.Steady.teardown base st .reset).configs
      have state : (base.teardown st .reset).settledState st = settled := by rw [Device.settledState, carrier, configs]
      rw [← state]
      exact Device.settle_eq_enterWith _ st
    refine ⟨fun doze => ?_, fun nothing => ?_, fun ref funding => ?_, fun stands => ?_⟩
    · have woken : base.resetStation st = (base.send st .wake).settle st := by
        rw [Device.resetStation, show (base.ctx st).state = .doze from doze]
      rw [reset, woken, settle]
      · rw [Device.port_send, Port.queued_carrier]; rfl
      · exact base.send_configs st .wake
      · rw [base.send_mgmt st .wake]; rfl
    · have awake : (base.ctx st).state ≠ .doze := by
        rintro e; simp [show (d.ctx st).state = _ from e] at nothing
      have quiet : (base.ctx st).state = .idle ∨ (base.ctx st).state = .doze ∨ ∃ r, (base.ctx st).state = .offline r :=
        nothing.imp_right .inr
      rw [reset, Device.resetStation_of_not_doze awake, Device.teardown_of_nothing quiet, settle base rfl rfl rfl]
    · have awake : (base.ctx st).state ≠ .doze := by
        rintro e; simp [show (d.ctx st).state = _ from e] at funding
      refine ⟨_, reset, ?_⟩
      have left := fun s doze => atBase.abandoned (s := s) (doze := doze) (r := .reset) funding (by simp)
      have carrier : ((base.teardown st .reset).port st).carrier = (d.port st).carrier := by
        obtain ⟨-, -, -, port, -⟩ := left .idle none
        have torn : (base.teardown st .reset).port st = _ := port
        rw [torn, Device.port_send, Port.queued_carrier]
      rw [Device.resetStation_of_not_doze awake]
      obtain ⟨doze, enters⟩ := resets carrier
      rw [enters]
      exact left settled doze
    · obtain ⟨some, opened, state⟩ := stands
      obtain ⟨k, session⟩ := Option.ne_none_iff_exists'.mp some
      have awake : (base.ctx st).state ≠ .doze := by
        rintro e; simp [show (d.ctx st).state = _ from e] at state
      refine ⟨_, reset, ?_⟩
      have left := fun s doze => atBase.tornDown (s := s) (doze := doze) (r := .reset) session opened state (by simp)
      have carrier : ((base.teardown st .reset).port st).carrier = (d.port st).carrier := by
        obtain ⟨-, -, -, -, -, -, -, -, port, -⟩ := left .idle none
        have torn : (base.teardown st .reset).port st = _ := port
        rw [torn, Device.port_send, Port.queued_carrier]
        split
        · rfl
        · rw [Device.port_send, Port.queued_carrier]
      rw [Device.resetStation_of_not_doze awake]
      obtain ⟨doze, enters⟩ := resets carrier
      rw [enters]
      exact left settled doze

end Sys2Proof.Machine
end

section
/-! PROOF. What a job has to spend and how it asks for more (R28 to R31, R41, R45, R122): headroom, GO and PAUSE, the entries to
RUNNING and HELD, and the renewal of a hold for funds. -/

namespace Sys2Proof.Machine

/-! ### A job that changes -/

section
variable (d : Device) (st : Station) (f : Job → Job)

theorem Device.state_modJob : ((d.modJob st f).ctx st).state = (d.ctx st).state := by rw [Device.ctx_modJob]

theorem Device.session_modJob : ((d.modJob st f).ctx st).session = (d.ctx st).session := by rw [Device.ctx_modJob]

theorem Device.endPending_modJob : ((d.modJob st f).ctx st).endPending = (d.ctx st).endPending := by rw [Device.ctx_modJob]

theorem Device.job_modJob {d : Device} {st : Station} {j : Job} (job : (d.ctx st).job = some j) :
    ((d.modJob st f).ctx st).job = some (f j) := by rw [Device.ctx_modJob, job]; rfl

end

/-! ### Headroom, GO and PAUSE -/

/-- R29: what a funding leaves a job free to spend, with a path list. -/
def Device.headroomOf (d : Device) (j : Job) (path : List PathEntry) : Funding → Nat
  | .account _ => j.draw.getD 0 - sumProvisional path
  | .card ref => (d.slot ref.slot).headroom

/-- R30: the allowance of a session's job, with a path list. -/
def Device.allowance (d : Device) (s : Session) (j : Job) (path : List PathEntry) : Nat :=
  allowanceOf (d.headroomOf j path s.funding) (d.sidePrice s.bank (priceClass j.size j.colour))

section
variable {d : Device} {st : Station} {s : Session} {j : Job}
  (session : (d.ctx st).session = some s) (job : (d.ctx st).job = some j)
include session job

theorem Device.headroom_eq : d.headroom st = d.headroomOf j (d.path st) s.funding := by
  obtain ⟨funding, _⟩ := s
  unfold Device.headroom
  rw [session]
  cases funding with
  | account n => simp only [job]; rfl
  | card ref => rfl

theorem Device.jobPrice_eq : d.jobPrice st = d.oneSheetPrice s.bank j := by
  simp only [Device.jobPrice, session, job]

theorem Device.covered_eq :
    d.covered st = decide (d.oneSheetPrice s.bank j ≤ d.headroomOf j (d.path st) s.funding) := by
  rw [Device.covered, Device.headroom_eq session job, Device.jobPrice_eq session job]

/-- R30: GO stores the allowance it carries. -/
theorem Device.sendGo_of_job (going : j.stopPending = false) : d.sendGo st =
    (d.modJob st fun k => { k with allowance := d.allowance s j (d.path st) }).send st
      (.go (d.allowance s j (d.path st))) := by
  simp only [Device.sendGo, session, job, going, Bool.false_eq_true, if_false, Device.headroom_eq session job]
  rfl

/-- R30, R45: a station with room on its path list that enters RUNNING is sent its GO. -/
theorem Device.enterRunning_of_room (going : j.stopPending = false) (room : (d.path st).length < 8) :
    d.enterRunning st = ((d.enter st .running).modJob st fun k =>
      { k with allowance := d.allowance s j (d.path st) }).send st (.go (d.allowance s j (d.path st))) := by
  let x := d.enter st .running
  have session' : (x.ctx st).session = some s := by simpa [x] using session
  have job' : (x.ctx st).job = some j := by simpa [x] using job
  have few : ¬ Config.pathCapacity ≤ (x.path st).length := Nat.not_le.mpr room
  have announced : x.announceRunning st = x.sendGo st := by
    simp only [Device.announceRunning, job', going, few, Bool.false_eq_true, if_false]
  rw [Device.enterRunning, announced, Device.sendGo_of_job session' job' going]
  rfl

end

/-- R31, R47: the entry to HELD: PAUSE(FUNDS), and the wait timer with nothing on the path. -/
theorem Device.enterHeld_eq (d : Device) (st : Station) : d.enterHeld st = (d.modCtx st fun c => { c with
    state := .held, dozeTimer := none, idleTimer := none
    waitTimer := if d.path st = [] then some d.mgmt.params.idleTime else none, jamTimer := none
    job := c.job.map fun j => { j with allowance := 0 } }).send st (.pause .funds) := by
  cases path : d.path st <;>
    simp [Device.enterHeld, Device.pathEmpty, Device.enter, Device.sendPause, Device.modJob, path,
      ← Device.send_modCtx, Device.modCtx_modCtx]

/-! ### The renewal of a hold for funds (R122) -/

/-- R122: a slot whose renewal for funds has been queued. -/
def Device.renewalQueued (d : Device) (i : SlotNo) : Device :=
  { d.modSlot i fun s => { s with
      state := .renewing, request := some { kind := .renew, place := .queued, funds := true, amount := 0 } } with
    payQueue := d.payQueue ++ [{ ref := d.slotRef i, kind := .renew }] }

/-- R122: a slot whose renewal under way is now for funds. -/
def Device.renewalMarked (d : Device) (i : SlotNo) : Device :=
  d.modSlot i fun s => { s with request := s.request.map fun r => { r with funds := true } }

section
variable {d : Device} {i : SlotNo}

theorem Device.fundsRenewal_of_active (active : (d.slot i).state = .active) (allowed : (d.slot i).renewalsRefused = false)
    (below : (d.slot i).approved < 16777215) : d.fundsRenewal i = (d.renewalQueued i, true) := by
  have room : ¬ Config.maxAmount ≤ (d.slot i).approved := Nat.not_le.mpr below
  have ref : (d.modSlot i fun s => { s with
      request := some { kind := .renew, place := .queued, funds := true, amount := 0 } }).slotRef i = d.slotRef i := by
    simp [Device.slotRef]
  simp only [Device.fundsRenewal, active, allowed, room, Bool.false_eq_true, if_false, Device.queueRequest, ref]
  refine congrArg (·, true) ?_
  simp [Device.renewalQueued, Device.modSlot, update]

theorem Device.fundsRenewal_of_renewing (renewing : (d.slot i).state = .renewing) :
    d.fundsRenewal i = (d.renewalMarked i, true) := by
  simp only [Device.fundsRenewal, renewing, Device.renewalMarked]

theorem Device.fundsRenewal_of_limit (active : (d.slot i).state = .active) (allowed : (d.slot i).renewalsRefused = false)
    (limit : 16777215 ≤ (d.slot i).approved) :
    d.fundsRenewal i = (d.modSlot i fun s => { s with renewalsRefused := true }, false) := by
  have full : Config.maxAmount ≤ (d.slot i).approved := limit
  simp only [Device.fundsRenewal, active, allowed, full, Bool.false_eq_true, if_false, if_true]

theorem Device.fundsRenewal_of_refused (active : (d.slot i).state = .active) (refused : (d.slot i).renewalsRefused = true) :
    d.fundsRenewal i = (d, false) := by
  simp only [Device.fundsRenewal, active, refused, if_true]

/-- R41, R45: a renewal that is accepted is what the job waits for. -/
theorem Device.askRenewal_of_accepted {x : Device} (h : d.fundsRenewal i = (x, true)) (st : Station) :
    d.askRenewal st i = x.modJob st fun j => { j with fundsRequest := .renew } := by
  simp only [Device.askRenewal, h, if_true]

/-- R41, R45: with a renewal refused at once the job's funds have ended. -/
theorem Device.askRenewal_of_rejected {x : Device} (h : d.fundsRenewal i = (x, false)) (st : Station) :
    d.askRenewal st i = x.modJob st fun j => { j with fundsEnded := true } := by
  simp only [Device.askRenewal, h, Bool.false_eq_true, if_false]

end

/-! ### What the asking of a renewal changes -/

/-- A change at the funding sources alone: hold slots with their requests, and account entries. -/
structure Device.FundsOnly (x z : Device) : Prop where
  rest : z = { x with slots := z.slots, payQueue := z.payQueue, accounts := z.accounts }
  steady : x.Steady z

namespace Device.FundsOnly

variable {x z : Device} (h : x.FundsOnly z)
include h

theorem ctx (y : Station) : z.ctx y = x.ctx y := (congrArg (Device.ctx · y) h.rest :)
theorem path (y : Station) : z.path y = x.path y := (congrArg (Device.path · y) h.rest :)
theorem port (y : Station) : z.port y = x.port y := (congrArg (Device.port · y) h.rest :)
theorem tariff : z.tariff = x.tariff := (congrArg Device.tariff h.rest :)
theorem outstanding : z.outstanding = x.outstanding := (congrArg Device.outstanding h.rest :)
theorem payReports : z.payReports = x.payReports := (congrArg Device.payReports h.rest :)
theorem reports : z.reports = x.reports := (congrArg Device.reports h.rest :)

theorem othersSame (st : Station) : x.OthersSame z st := fun y _ => ⟨h.ctx y, h.path y, h.port y⟩

omit h in
theorem refl (x : Device) : x.FundsOnly x := ⟨rfl, .refl x⟩

omit h in
theorem modSlot (x : Device) (i : SlotNo) (f : Slot → Slot) : x.FundsOnly (x.modSlot i f) := ⟨rfl, .modSlot x i f⟩

omit h in
theorem renewalQueued (x : Device) (i : SlotNo) : x.FundsOnly (x.renewalQueued i) :=
  ⟨rfl, .quiet rfl rfl rfl rfl rfl rfl rfl rfl rfl rfl rfl rfl rfl rfl rfl⟩

end Device.FundsOnly

/-- R122: what the asking of a renewal for slot `i` can change: the slot, but for its charges, and the payment request queue. -/
structure Device.RenewalSought (d y : Device) (i : SlotNo) : Prop where
  funds : d.FundsOnly y
  accounts : y.accounts = d.accounts
  provisional : (y.slot i).provisional = (d.slot i).provisional
  others : d.OtherSlotsSame y i

namespace Device.RenewalSought

theorem refl (d : Device) (i : SlotNo) : d.RenewalSought d i := ⟨.refl d, rfl, rfl, fun _ _ => rfl⟩

theorem modSlot (d : Device) (i : SlotNo) (f : Slot → Slot) (keeps : (f (d.slot i)).provisional = (d.slot i).provisional) :
    d.RenewalSought (d.modSlot i f) i :=
  ⟨.modSlot d i f, rfl, by rw [Device.slot_modSlot, keeps], fun x hx => d.slot_modSlot_ne i x f hx⟩

theorem renewalQueued (d : Device) (i : SlotNo) : d.RenewalSought (d.renewalQueued i) i :=
  have asked := modSlot d i (fun s => { s with
    state := .renewing, request := some { kind := .renew, place := .queued, funds := true, amount := 0 } }) rfl
  ⟨.renewalQueued d i, rfl, asked.provisional, asked.others⟩

/-- R122: a renewal asked of a slot in any state. -/
theorem fundsRenewal (d : Device) (i : SlotNo) : d.RenewalSought (d.fundsRenewal i).1 i := by
  cases state : (d.slot i).state with
  | active =>
    cases refused : (d.slot i).renewalsRefused with
    | true => rw [Device.fundsRenewal_of_refused state refused]; exact refl d i
    | false =>
      by_cases below : (d.slot i).approved < 16777215
      · rw [Device.fundsRenewal_of_active state refused below]; exact renewalQueued d i
      · rw [Device.fundsRenewal_of_limit state refused (Nat.not_lt.mp below)]; exact modSlot d i _ rfl
  | renewing => rw [Device.fundsRenewal_of_renewing state]; exact modSlot d i _ rfl
  | _ =>
    have same : d.fundsRenewal i = (d, false) := by simp only [Device.fundsRenewal, state]
    rw [same]
    exact refl d i

end Device.RenewalSought

/-- R41, R45: whatever the hold answers, the job's request or the end of its funds is noted, and nothing else of it changes. -/
theorem Device.askRenewal_eq (d : Device) (st : Station) (i : SlotNo) : ∃ (y : Device) (note : Job → Job),
    d.askRenewal st i = y.modJob st note ∧ d.RenewalSought y i ∧
    ∀ j, note j = { j with fundsRequest := (note j).fundsRequest, fundsEnded := (note j).fundsEnded } := by
  refine ⟨(d.fundsRenewal i).1, ?_⟩
  cases accepted : (d.fundsRenewal i).2 with
  | true => exact ⟨_, Device.askRenewal_of_accepted (Prod.ext rfl accepted) st, .fundsRenewal d i, fun _ => rfl⟩
  | false => exact ⟨_, Device.askRenewal_of_rejected (Prod.ext rfl accepted) st, .fundsRenewal d i, fun _ => rfl⟩

/-! ### The funds trigger (R41) -/

section
variable {d : Device} {st : Station} {s : Session} {j : Job}
  (session : (d.ctx st).session = some s) (job : (d.ctx st).job = some j)
include session job

omit session in
/-- R41: a job that has stopped, has asked already or is covered asks for nothing. -/
theorem Device.fundsTrigger_of_content (content : j.stopPending = true ∨ j.fundsRequest ≠ .none ∨ d.covered st = true) :
    d.fundsTrigger st = d := by
  unfold Device.fundsTrigger
  split
  · rename_i job'
    obtain rfl : j = _ := Option.some.inj (job.symm.trans job')
    exact if_pos content
  · rfl

/-- R41: an account session's job asks a refill. -/
theorem Device.fundsTrigger_of_account {n : Nat} (running : (d.ctx st).state = .running) (account : s.funding = .account n)
    (going : j.stopPending = false) (fresh : j.fundsRequest = .none) (short : d.covered st = false) :
    d.fundsTrigger st = (d.modJob st fun k => { k with fundsRequest := .refill }).modCtx st fun c =>
      { c with refillAsked := some { number := n, oneSheetPrice := d.oneSheetPrice s.bank j } } := by
  have seeks : ¬ (j.stopPending = true ∨ j.fundsRequest ≠ .none ∨ d.covered st = true) := by simp [going, fresh, short]
  simp only [Device.fundsTrigger, running, session, job, if_neg seeks, account, Device.jobPrice_eq session job]

/-- R41: a card session's job asks a renewal, and the station is HELD. -/
theorem Device.fundsTrigger_of_card {ref : SlotRef} (running : (d.ctx st).state = .running) (card : s.funding = .card ref)
    (going : j.stopPending = false) (fresh : j.fundsRequest = .none) (short : d.covered st = false) :
    d.fundsTrigger st = (d.askRenewal st ref.slot).enterHeld st := by
  have seeks : ¬ (j.stopPending = true ∨ j.fundsRequest ≠ .none ∨ d.covered st = true) := by simp [going, fresh, short]
  simp only [Device.fundsTrigger, running, session, job, if_neg seeks, card]

omit session job in
theorem Device.fundsTrigger_of_not_running (h : (d.ctx st).state ≠ .running) : d.fundsTrigger st = d := by
  unfold Device.fundsTrigger
  split
  · rename_i running _ _; exact absurd running h
  · rfl

end

/-- What the metering of sheets changes beside account entries: contexts, path lists, ports, notices, and the payment unit's slots
with its request queue. -/
def Device.MeteringOnly (d t : Device) : Prop := t = { d with
  contexts := t.contexts, paths := t.paths, ports := t.ports, notices := t.notices, slots := t.slots, payQueue := t.payQueue }

namespace Device.MeteringOnly

variable {d t u : Device}

theorem of_eq {c : Vector Context 16} {l : Vector (List PathEntry) 16} {p : Vector Port 16} {n : Notices} {i : Vector Slot 32}
    {q : List QueueEntry} (h : t = { d with contexts := c, paths := l, ports := p, notices := n, slots := i, payQueue := q }) :
    d.MeteringOnly t := by
  subst h
  rfl

theorem refl (d : Device) : d.MeteringOnly d := rfl

theorem send (d : Device) (st : Station) (f : StationFrame) : d.MeteringOnly (d.send st f) := .of_eq (d.send_rest st f)

theorem of_lines (h : d.LinesOnly t) (accounts : t.accounts = d.accounts) : d.MeteringOnly t := by
  unfold Device.LinesOnly at h
  rw [accounts] at h
  exact .of_eq h

theorem trans (h : d.MeteringOnly t) (k : t.MeteringOnly u) : d.MeteringOnly u := by
  unfold Device.MeteringOnly at h k ⊢
  rw [h] at k
  exact k

section
variable (h : d.MeteringOnly t)
include h

theorem booksSame : d.BooksSame t := by rw [h]; exact ⟨rfl, rfl⟩
theorem setupSame : d.SetupSame t := by rw [h]; exact ⟨rfl, rfl, rfl, rfl, rfl, rfl⟩
theorem uplinkSame : d.UplinkSame t := by rw [h]; exact ⟨rfl, rfl, rfl⟩
theorem tariff : t.tariff = d.tariff := by rw [h]

theorem paymentsSame (slots : t.slots = d.slots) (queue : t.payQueue = d.payQueue) : d.PaymentsSame t :=
  ⟨slots, queue, by rw [h], by rw [h], by rw [h]⟩

end

end Device.MeteringOnly

/-- What the funds trigger of a station with session `s` and job `j` can change (R41): `d` is the part before, `t` afterwards. -/
structure Device.FundsSought (d t : Device) (st : Station) (s : Session) (j : Job) : Prop where
  ctx : t.ctx st = { d.ctx st with
    state := (t.ctx st).state, job := (t.ctx st).job, refillAsked := (t.ctx st).refillAsked
    dozeTimer := (t.ctx st).dozeTimer, idleTimer := (t.ctx st).idleTimer, waitTimer := (t.ctx st).waitTimer
    jamTimer := (t.ctx st).jamTimer }
  state : (t.ctx st).state = (d.ctx st).state ∨ (t.ctx st).state = .held
  job : ∃ k, (t.ctx st).job = some k ∧ k.allowance ≤ j.allowance ∧
    k = { j with allowance := k.allowance, fundsRequest := k.fundsRequest, fundsEnded := k.fundsEnded }
  waitTimer : (d.ctx st).waitTimer = none → d.path st ≠ [] → (t.ctx st).waitTimer = none
  jamTimer : (d.ctx st).jamTimer = none → (t.ctx st).jamTimer = none
  rest : d.MeteringOnly t
  path : t.path st = d.path st
  others : d.OthersSame t st
  account : ∀ n, s.funding = .account n → t.slots = d.slots ∧ t.payQueue = d.payQueue
  card : ∀ ref, s.funding = .card ref →
    (t.slot ref.slot).provisional = (d.slot ref.slot).provisional ∧ d.OtherSlotsSame t ref.slot

namespace Device.FundsSought

variable {d : Device} {st : Station} {s : Session} {j : Job}

theorem refl (job : (d.ctx st).job = some j) : d.FundsSought d st s j :=
  ⟨rfl, .inl rfl, ⟨j, job, le_rfl, rfl⟩, fun none _ => none, id, .refl d, rfl, .refl d st, fun _ _ => ⟨rfl, rfl⟩,
    fun _ _ => ⟨rfl, fun _ _ => rfl⟩⟩

/-- R41: a refill asked. -/
theorem refill (job : (d.ctx st).job = some j) {n : Nat} (account : s.funding = .account n) (ask : RefillAsk) :
    d.FundsSought ((d.modJob st fun k => { k with fundsRequest := .refill }).modCtx st fun c =>
      { c with refillAsked := some ask }) st s j := by
  have ctx := (d.modJob st fun k => { k with fundsRequest := .refill }).ctx_modCtx st fun c => { c with refillAsked := some ask }
  rw [Device.ctx_modJob] at ctx
  refine ⟨by rw [ctx], .inl (by rw [ctx]), ⟨{ j with fundsRequest := .refill }, by rw [ctx, job]; rfl, le_rfl, rfl⟩,
    fun none _ => by rw [ctx]; exact none, fun none => by rw [ctx]; exact none, rfl, rfl,
    (Device.OthersSame.modCtx d st _).trans (.modCtx _ st _), fun _ _ => ⟨rfl, rfl⟩, fun ref card => ?_⟩
  rw [account] at card
  cases card

/-- R41: a renewal asked. -/
theorem renewal (job : (d.ctx st).job = some j) {ref : SlotRef} (card : s.funding = .card ref) :
    d.FundsSought ((d.askRenewal st ref.slot).enterHeld st) st s j := by
  obtain ⟨y, note, asked, sought, notes⟩ := d.askRenewal_eq st ref.slot
  let x := y.modJob st note
  let held : Context → Context := fun c => { c with
    state := .held, dozeTimer := none, idleTimer := none
    waitTimer := if x.path st = [] then some x.mgmt.params.idleTime else none, jamTimer := none
    job := c.job.map fun j => { j with allowance := 0 } }
  have source : d.MeteringOnly y := by
    have rest := sought.funds.rest
    rw [sought.accounts] at rest
    exact .of_eq rest
  have path : x.path st = d.path st := sought.funds.path st
  have ctx : ((x.modCtx st held).send st (.pause .funds)).ctx st =
      held { d.ctx st with job := some (note j) } := by
    rw [Device.send_ctx, Device.ctx_modCtx]
    exact congrArg held (by rw [Device.ctx_modJob, sought.funds.ctx, job]; rfl)
  rw [asked, Device.enterHeld_eq]
  refine ⟨by rw [ctx], .inr (by rw [ctx]), ⟨{ note j with allowance := 0 }, by rw [ctx]; rfl, Nat.zero_le _, ?_⟩,
    fun _ some => by rw [ctx]; exact if_neg (path ▸ some), fun _ => by rw [ctx], ?_, ?_, ?_, fun n account => ?_, fun r card' => ?_⟩
  · rw [notes j]
  · exact (source.trans (.of_eq rfl)).trans (.send (x.modCtx st held) st _)
  · exact (Device.send_path _ st _ st).trans path
  · exact (((sought.funds.othersSame st).trans (.modCtx y st _)).trans (.modCtx x st held)).trans (.send _ st _)
  · rw [account] at card
    cases card
  · obtain rfl : ref = r := Funding.card.inj (card.symm.trans card')
    have slot : ∀ i, ((x.modCtx st held).send st (.pause .funds)).slot i = y.slot i := fun i => Device.send_slot _ st _ i
    exact ⟨(congrArg Slot.provisional (slot _)).trans sought.provisional, fun i hi => (slot i).trans (sought.others i hi)⟩

end Device.FundsSought

/-- R41: what the funds trigger can do. -/
theorem Device.fundsTrigger_sought {d : Device} {st : Station} {s : Session} {j : Job}
    (session : (d.ctx st).session = some s) (job : (d.ctx st).job = some j) : d.FundsSought (d.fundsTrigger st) st s j := by
  by_cases running : (d.ctx st).state = .running
  case neg => rw [Device.fundsTrigger_of_not_running running]; exact .refl job
  by_cases content : j.stopPending = true ∨ j.fundsRequest ≠ .none ∨ d.covered st = true
  case pos => rw [Device.fundsTrigger_of_content job content]; exact .refl job
  obtain ⟨going, fresh, short⟩ : j.stopPending = false ∧ j.fundsRequest = .none ∧ d.covered st = false := by
    simpa using content
  cases funding : s.funding with
  | account n =>
    rw [Device.fundsTrigger_of_account session job running funding going fresh short]
    exact .refill job funding _
  | card ref =>
    rw [Device.fundsTrigger_of_card session job running funding going fresh short]
    exact .renewal job funding

end Sys2Proof.Machine
end

section
/-! PROOF. Funds reach a job that waits for them: the outcome of a hold's renewal (O41) and the grant of a waiting list (O44). -/

namespace Sys2Proof.Machine

section
variable {d : Device} {st : Station} {s : Session} {j : Job}
  (session : (d.ctx st).session = some s) (job : (d.ctx st).job = some j)
include session job

/-- R45, R63: whether funds that have arrived cover a sheet is a matter of the session's price and headroom. -/
theorem Device.covered_of_arrived : (d.modJob st fun k => { k with fundsRequest := .none }).covered st =
    decide (d.oneSheetPrice s.bank j ≤ d.headroomOf j (d.path st) s.funding) :=
  Device.covered_eq (j := { j with fundsRequest := .none }) ((d.session_modJob st _).trans session) (Device.job_modJob _ job)

/-- R45: a HELD station whose funds cover a sheet runs again. -/
theorem Device.fundsArrived_runs (held : (d.ctx st).state = .held)
    (enough : d.oneSheetPrice s.bank j ≤ d.headroomOf j (d.path st) s.funding) (going : j.stopPending = false)
    (room : (d.path st).length < 8) : d.fundsArrived st = ((d.enter st .running).modJob st fun k =>
      { k with fundsRequest := .none, allowance := d.allowance s j (d.path st) }).send st
        (.go (d.allowance s j (d.path st))) := by
  let x := d.modJob st fun k => { k with fundsRequest := .none }
  have runs : x.enterRunning st = _ := Device.enterRunning_of_room (d := x) (s := s) (j := { j with fundsRequest := .none })
    ((d.session_modJob st _).trans session) (Device.job_modJob _ job) going room
  have covered : x.covered st = true := (Device.covered_of_arrived session job).trans (decide_eq_true enough)
  have state : (x.ctx st).state = .held := (d.state_modJob st _).trans held
  have arrived : d.fundsArrived st = x.enterRunning st := by
    change (match (x.ctx st).state with | .held => _ | .jammed .held => _ | _ => x) = _
    rw [state]
    exact if_pos covered
  rw [arrived, runs]
  simp only [x, Device.enter, Device.modJob, Device.modCtx_modCtx, Option.map_map, Function.comp_def]
  rfl

/-- R63: a jammed station whose funds cover a sheet will run again. -/
theorem Device.fundsArrived_resumes (jammed : (d.ctx st).state = .jammed .held)
    (enough : d.oneSheetPrice s.bank j ≤ d.headroomOf j (d.path st) s.funding) : d.fundsArrived st =
      (d.modJob st fun k => { k with fundsRequest := .none }).modCtx st fun c => { c with state := .jammed .running } := by
  have covered := (Device.covered_of_arrived session job).trans (decide_eq_true enough)
  simp only [Device.fundsArrived, Device.ctx_modJob, jammed, covered, if_true]

/-- R45, R63: with the headroom still short more funds are asked for. -/
theorem Device.fundsArrived_asksAgain
    (state : ((d.ctx st).state = .held ∧ j.stopPending = false) ∨ (d.ctx st).state = .jammed .held)
    (short : d.headroomOf j (d.path st) s.funding < d.oneSheetPrice s.bank j) :
    d.fundsArrived st = (d.modJob st fun k => { k with fundsRequest := .none }).askAgain st := by
  have uncovered := (Device.covered_of_arrived session job).trans (decide_eq_false (Nat.not_le.mpr short))
  rcases state with ⟨held, going⟩ | jammed
  · have going' : (d.modJob st fun k => { k with fundsRequest := .none }).stopping st = false := by
      simp [Device.stopping, job, going]
    simp only [Device.fundsArrived, Device.ctx_modJob, held, uncovered, going', Bool.false_eq_true, if_false]
  · simp only [Device.fundsArrived, Device.ctx_modJob, jammed, uncovered, Bool.false_eq_true, if_false]

/-- R49: a HELD station with stop pending seeks no funds (log 22). -/
theorem Device.fundsArrived_of_stopping (held : (d.ctx st).state = .held) (stopping : j.stopPending = true)
    (short : d.headroomOf j (d.path st) s.funding < d.oneSheetPrice s.bank j) :
    d.fundsArrived st = d.modJob st fun k => { k with fundsRequest := .none } := by
  have uncovered := (Device.covered_of_arrived session job).trans (decide_eq_false (Nat.not_le.mpr short))
  have stopping' : (d.modJob st fun k => { k with fundsRequest := .none }).stopping st = true := by
    simp [Device.stopping, job, stopping]
  simp only [Device.fundsArrived, Device.ctx_modJob, held, uncovered, stopping', Bool.false_eq_true, if_false, if_true]

end

/-! ### The outcome of a renewal -/

section
variable {d : Device} {st : Station} {s : Session} {j : Job} {ref : SlotRef}

theorem Device.askAgain_of_card (session : (d.ctx st).session = some s) (card : s.funding = .card ref) :
    d.askAgain st = d.askRenewal st ref.slot := by
  obtain ⟨_, _⟩ := s
  subst card
  rw [Device.askAgain, session]

/-- R48: the outcome of a renewal is for the job that waits for it. -/
theorem Context.awaitsRenewal_iff {c : Context} (session : c.session = some s) (card : s.funding = .card ref)
    (job : c.job = some j) : c.awaitsRenewal ref = true ↔ j.fundsRequest = .renew := by
  simp [Context.awaitsRenewal, Context.cardRef_of_card session card, Context.requested, job]

/-- R41, R45: a job whose renewal has been granted too little waits for the next one. -/
theorem Device.askRenewal_again (job : (d.ctx st).job = some j) (renew : j.fundsRequest = .renew) {i : SlotNo}
    (active : (d.slot i).state = .active) (allowed : (d.slot i).renewalsRefused = false)
    (below : (d.slot i).approved < 16777215) :
    (d.modJob st fun k => { k with fundsRequest := .none }).askRenewal st i = d.renewalQueued i := by
  let x := d.modJob st fun k => { k with fundsRequest := .none }
  have accepted : x.fundsRenewal i = (x.renewalQueued i, true) := Device.fundsRenewal_of_active active allowed below
  have kept : (x.modJob st fun k => { k with fundsRequest := .renew }) = d := by
    have same : { j with fundsRequest := .renew } = j := by rw [← renew]
    simp only [x, Device.modJob, Device.modCtx_modCtx]
    refine Device.modCtx_eq_self _ _ _ ?_
    simp only [job, Option.map_some, same]
    rw [← job]
  rw [Device.askRenewal_of_accepted accepted]
  exact congrArg (fun y : Device => y.renewalQueued i) kept

/-- R41, R45: a job whose renewal has been granted too little, with renewals refused, has no more funds to come. -/
theorem Device.askRenewal_ended {i : SlotNo} (active : (d.slot i).state = .active)
    (refused : (d.slot i).renewalsRefused = true) :
    (d.modJob st fun k => { k with fundsRequest := .none }).askRenewal st i =
      d.modJob st fun k => { k with fundsRequest := .none, fundsEnded := true } := by
  let x := d.modJob st fun k => { k with fundsRequest := .none }
  have rejected : x.fundsRenewal i = (x, false) := Device.fundsRenewal_of_refused active refused
  rw [Device.askRenewal_of_rejected rejected]
  simp only [x, Device.modJob, Device.modCtx_modCtx, Option.map_map, Function.comp_def]

/-- R46: a refusal sets funds ended, and nothing more follows while the station is jammed or a sheet is on its path. -/
theorem Device.takeRenewalRefusal_waits (awaits : (d.ctx st).awaitsRenewal ref = true)
    (more : ¬ ((d.ctx st).state = .held ∧ d.path st = [])) : d.takeRenewalRefusal st ref = d.modJob st Job.fundsRefused := by
  have stays : ¬ (((d.modJob st Job.fundsRefused).ctx st).state = .held ∧
      (d.modJob st Job.fundsRefused).pathEmpty st = true) := by
    simpa [Device.pathEmpty] using more
  rw [Device.takeRenewalRefusal, if_pos awaits]
  exact if_neg stays

/-- R46: a refusal ends the job of a HELD station with an empty path. -/
theorem Device.takeRenewalRefusal_ends (awaits : (d.ctx st).awaitsRenewal ref = true) (held : (d.ctx st).state = .held)
    (path : d.path st = []) : d.takeRenewalRefusal st ref = (d.modJob st Job.fundsRefused).finishJob st .funds := by
  have ends : ((d.modJob st Job.fundsRefused).ctx st).state = .held ∧
      (d.modJob st Job.fundsRefused).pathEmpty st = true := by
    simpa [Device.pathEmpty, path] using held
  rw [Device.takeRenewalRefusal, if_pos awaits]
  exact if_pos ends

end

/-- Settles O41. -/
theorem renewalReportsReachTheJob : Obligations.RenewalReportsReachTheJob := by
  intro d q st s j ref rest works session card job taken side headroom allowance
  have awaits : (taken.ctx st).awaitsRenewal ref = true ↔ j.fundsRequest = .renew :=
    Context.awaitsRenewal_iff session card job
  have funds : taken.headroomOf j (taken.path st) s.funding = headroom := by rw [card]; rfl
  have allowed : taken.allowance s j (taken.path st) = allowance := by rw [Device.allowance, funds]; rfl
  refine ⟨fun head => ?_, fun head => ?_⟩
  · have run : ∀ t, taken.takeRenewalApproval st ref = t → exec (.renewalApprovalReport st) ⟨d, q⟩ = .next ⟨t, q⟩ := by
      rintro t rfl
      refine (State.onDevice_running d q _ works).trans ?_
      rw [Device.takeReport_of_head head]
    have arrives : j.fundsRequest = .renew → taken.takeRenewalApproval st ref = taken.fundsArrived st := fun renew =>
      if_pos (awaits.mpr renew)
    refine ⟨fun other => run _ (if_neg fun e => other (awaits.mp e)), fun renew held enough going room => run _ ?_,
      fun renew state short active => ⟨fun refused => run _ ?_, fun unrefused below => run _ ?_⟩,
      fun renew held short stopping => run _ ?_, fun renew jammed enough => run _ ?_⟩
    · rw [arrives renew, Device.fundsArrived_runs (d := taken) session job held (by rw [funds]; exact enough) going room,
        allowed]
    · rw [arrives renew, Device.fundsArrived_asksAgain (d := taken) session job state (by rw [funds]; exact short),
        Device.askAgain_of_card ((taken.session_modJob st _).trans session) card, Device.askRenewal_ended (d := taken) active refused]
    · rw [arrives renew, Device.fundsArrived_asksAgain (d := taken) session job state (by rw [funds]; exact short),
        Device.askAgain_of_card ((taken.session_modJob st _).trans session) card,
        Device.askRenewal_again (d := taken) job renew active unrefused below]
      rfl
    · rw [arrives renew, Device.fundsArrived_of_stopping (d := taken) session job held stopping (by rw [funds]; exact short)]
    · rw [arrives renew, Device.fundsArrived_resumes (d := taken) session job jammed (by rw [funds]; exact enough)]
  · have run : ∀ t, taken.takeRenewalRefusal st ref = t → exec (.renewalRefusalReport st) ⟨d, q⟩ = .next ⟨t, q⟩ := by
      rintro t rfl
      refine (State.onDevice_running d q _ works).trans ?_
      rw [Device.takeReport_of_head head]
    refine ⟨fun other => run _ (if_neg fun e => other (awaits.mp e)), fun renew state => run _ ?_,
      fun renew held path pending refused room => ⟨_, run _ rfl, ?_⟩⟩
    · refine (Device.takeRenewalRefusal_waits (d := taken) (awaits.mpr renew) fun ⟨held, path⟩ => ?_).trans ?_
      · rcases state with jammed | ⟨-, left⟩
        · exact absurd (held.symm.trans jammed) (by simp)
        · exact left path
      · exact congrArg (taken.modJob st) (funext fun k => rfl)
    · let x := taken.modJob st Job.fundsRefused
      rw [Device.takeRenewalRefusal_ends (d := taken) (awaits.mpr renew) held path]
      have session' : (x.ctx st).session = some s := (taken.session_modJob st _).trans session
      have job' : (x.ctx st).job = some j.fundsRefused := Device.job_modJob (d := taken) _ job
      have spent : (x.endJob st .funds true).fundingSpent st = true :=
        (Device.fundingSpent_endJob_of_card session' job' card).trans refused
      have none : ((x.endJob st .funds true).ctx st).endPending = none :=
        (Device.endJob_ended job' .funds true).endPending.trans ((taken.endPending_modJob st _).trans pending)
      have closed := Device.finishJob_closed session' job' (e := .fundsEnded) (by simp) room
        (Device.afterJob_of_spent none spent)
      refine ⟨closed.state, closed.session, closed.job, ?_, s.report x st .fundsEnded, closed.reports, rfl, rfl⟩
      rw [closed.port, Device.port_send, Device.port_send]
      rfl

end Sys2Proof.Machine
end

section
/-! PROOF. The grant of a waiting list (O44). -/

namespace Sys2Proof.Machine

section
variable {d : Device} {st : Station} {n draw : Nat} {rest : List AccountMail}

/-- R86: the oldest message toward a context is taken. -/
theorem Device.dropMail_of_head {m : AccountMail} (head : (d.ctx st).accountMail = m :: rest) :
    d.dropMail st = d.modCtx st fun c => { c with accountMail := rest } :=
  Device.modCtx_congr _ _ _ _ (by rw [head]; rfl)

/-- R45, R48, R63: a grant is for the job that waits for one; otherwise it goes back. -/
theorem Device.takeGrant_of_head (head : (d.ctx st).accountMail = .grant n draw :: rest) :
    d.takeGrant st = (let taken := d.modCtx st fun c => { c with accountMail := rest }
      if (d.ctx st).requested .waiting then (taken.addDraw st draw).fundsArrived st else taken.handBack st n draw) := by
  have requested : ((d.modCtx st fun c => { c with accountMail := rest }).ctx st).requested .waiting =
      (d.ctx st).requested .waiting := by rw [Device.ctx_modCtx]; rfl
  simp only [Device.takeGrant, head, Device.dropMail_of_head head, requested]

theorem Device.TableActs.handBack (d : Device) (st : Station) (n draw : Nat) : d.TableActs (d.handBack st n draw) st :=
  ((Device.TableActs.takeRefill d st).trans (.modAccount _ st n _)).trans (.serveIf _ st _ n)

/-- R93, R94: a draw handed back to its account, whose list is then served. -/
theorem Device.handBack_listServed {a : Account} (known : d.account n = some a) (asked : (d.ctx st).refillAsked = none) :
    ∃ b, d.ListServed (d.handBack st n draw) n { a with draws := a.draws - draw } b (0 < draw) := by
  let y := d.modAccount n fun a => { a with draws := a.draws - draw }
  have entry : y.account n = some { a with draws := a.draws - draw } := by
    have lowered := d.account_modAccount n (fun a => { a with draws := a.draws - draw }) fun _ => rfl
    rw [lowered, known]
    rfl
  have others : ∀ m, m ≠ n → y.account m = d.account m := fun m hm => d.account_modAccount_ne n m _ (fun _ => rfl) hm
  obtain ⟨b, served⟩ := Device.serveIf_listServed entry (0 < draw)
  rw [decide_eq_true_iff] at served
  rw [Device.handBack, Device.takeRefill_of_none asked]
  exact ⟨b, served.of_before others rfl fun _ => rfl⟩

end

/-- Settles O44. -/
theorem grantFundsTheWaitingJob : Obligations.GrantFundsTheWaitingJob := by
  intro d q st n draw rest works head taken run
  have runs : run = .next ⟨d.takeGrant st, q⟩ := State.onDevice_running d q _ works
  rw [Device.takeGrant_of_head head] at runs
  have ctx : taken.ctx st = { d.ctx st with accountMail := rest } := Device.ctx_modCtx d st _
  refine ⟨?_, fun a other asked known => ?_⟩
  · intro s j session account job waiting added side headroom allowance enough
    let x := taken.addDraw st draw
    let k : Job := { j with draw := some added }
    have session' : (x.ctx st).session = some s := (taken.session_modJob st _).trans (by rw [ctx]; exact session)
    have job' : (x.ctx st).job = some k := Device.job_modJob _ (by rw [ctx]; exact job)
    have state : (x.ctx st).state = (d.ctx st).state := (taken.state_modJob st _).trans (by rw [ctx])
    have funds : x.headroomOf k (x.path st) s.funding = headroom := by rw [account]; rfl
    have allowed : x.allowance s k (x.path st) = allowance := by rw [Device.allowance, funds]; rfl
    have drawn : x = taken.modJob st fun i => { i with draw := some added } :=
      Device.modCtx_congr _ _ _ _ (by simp only [ctx, job, Option.map_some]; rfl)
    have arrives : run = .next ⟨x.fundsArrived st, q⟩ := runs.trans (by
      have requested : (d.ctx st).requested .waiting = true := by simp [Context.requested, job, waiting]
      simp only [requested, if_true]
      rfl)
    refine ⟨fun held going room => ?_, fun jammed => ?_⟩
    · rw [arrives, Device.fundsArrived_runs session' job' (state.trans held) (by rw [funds]; exact enough) going room, allowed,
        drawn]
      simp only [Device.enter, Device.modJob, Device.modCtx_modCtx, Option.map_map, Function.comp_def]
    · rw [arrives, Device.fundsArrived_resumes session' job' (state.trans jammed) (by rw [funds]; exact enough), drawn]
      simp only [Device.modJob, Device.modCtx_modCtx, Option.map_map, Function.comp_def]
  · simp only [other, Bool.false_eq_true, if_false] at runs
    have acts := Device.TableActs.handBack taken st n draw
    have asked' : (taken.ctx st).refillAsked = none := by rw [ctx]; exact asked
    obtain ⟨b, served⟩ := Device.handBack_listServed (d := taken) (draw := draw) known asked'
    refine ⟨_, b, runs, acts.rest, fun x => ?_, served⟩
    rw [Context.eq_but_mail (acts.muted x) (acts.asked x (.inr asked'))]

end Sys2Proof.Machine
end

section
/-! PROOF. Admission of a job (R33 to R35): in an account session (O21) and in a card session (O22). -/

namespace Sys2Proof.Machine

/-! ### A job starts -/

/-- R30, R33: the job record of an order whose GO carries an allowance. -/
def JobOrder.begun (o : JobOrder) (draw : Option Nat) (allowance : Nat) : Job :=
  { o.job draw .none with allowance := allowance }

/-- R90: the account table after a draw of an account has been granted. -/
def Device.drawn (d : Device) (n draw : Nat) : Device := d.modAccount n fun a => { a with draws := a.draws + draw }

/-- R33, R45, R47: the part when a job of session `s` has been created and its station told with `f`. -/
def Device.started (d : Device) (st : Station) (s : Session) (state : StationState) (wait : Option Nat) (k : Job)
    (f : StationFrame) : Device :=
  (d.modCtx st fun c => { c with
    state := state, dozeTimer := none, idleTimer := none, waitTimer := wait, jamTimer := none
    session := some { s with jobs := s.jobs + 1 }, job := some k }).send st f

section
variable (d : Device) (st : Station) (s : Session) (state : StationState) (wait : Option Nat) (k : Job) (f : StationFrame)

theorem Device.ctx_started : (d.started st s state wait k f).ctx st = { d.ctx st with
    state := state, dozeTimer := none, idleTimer := none, waitTimer := wait, jamTimer := none
    session := some { s with jobs := s.jobs + 1 }, job := some k } := by
  rw [Device.started, Device.send_ctx, Device.ctx_modCtx]

theorem Device.port_started : (d.started st s state wait k f).port st = (d.port st).queued f := by
  rw [Device.started, Device.port_send]
  rfl

/-- The start of a job touches no more than the station's context and port, and the notice unit. -/
theorem Device.started_rest : d.started st s state wait k f = { d with
    contexts := (d.started st s state wait k f).contexts, ports := (d.started st s state wait k f).ports
    notices := (d.started st s state wait k f).notices } := by
  rw [Device.started, Device.send_rest]
  rfl

theorem Device.started_lines : d.LinesOnly (d.started st s state wait k f) := .of_eq (d.started_rest st s state wait k f)

theorem Device.accounts_started : (d.started st s state wait k f).accounts = d.accounts := by rw [Device.started_rest]

theorem Device.account_started (n : Nat) : (d.started st s state wait k f).account n = d.account n := by
  rw [Device.started_rest]; rfl

theorem Device.OthersSame.started : d.OthersSame (d.started st s state wait k f) st :=
  (Device.OthersSame.modCtx d st _).trans (.send _ st f)

theorem Device.Steady.started : d.Steady (d.started st s state wait k f) :=
  (Device.Steady.modCtx d st _).trans (.send _ st f)

end

section
variable {d : Device} {st : Station} {s : Session} {o : JobOrder} (session : (d.ctx st).session = some s)
  (path : d.path st = [])
include session path

/-- R34, R35: a job whose first sheet is covered runs with a GO. -/
theorem Device.createJob_enterRunning (draw : Option Nat) :
    (d.createJob st (o.job draw .none)).enterRunning st = d.started st s .running none
      (o.begun draw (d.allowance s (o.job draw .none) []))
      (.go (d.allowance s (o.job draw .none) [])) := by
  let x := d.createJob st (o.job draw .none)
  have ctx : x.ctx st = { d.ctx st with
      job := some (o.job draw .none), session := some { s with jobs := s.jobs + 1 } } := by
    simp [x, Device.createJob, session]
  have empty : x.path st = [] := path
  have runs := Device.enterRunning_of_room (d := x) (s := { s with jobs := s.jobs + 1 }) (j := o.job draw .none)
    (by rw [ctx]) (by rw [ctx]) rfl (by rw [empty]; decide)
  rw [runs, empty]
  refine congrArg (fun t : Device => t.send st _) ?_
  simp only [x, Device.createJob, Device.enter, Device.modJob, Device.modCtx_modCtx]
  exact Device.modCtx_congr _ _ _ _ (by simp only [session, Option.map_some]; rfl)

/-- R35, R47: a job whose first sheet waits for a renewal is HELD. -/
theorem Device.createJob_enterHeld :
    (d.createJob st (o.job none .renew)).enterHeld st = d.started st s .held (some d.mgmt.params.idleTime)
      (o.job none .renew) (.pause .funds) := by
  have empty : (d.createJob st (o.job none .renew)).path st = [] := path
  rw [Device.enterHeld_eq, if_pos empty, Device.started]
  refine congrArg (fun t : Device => t.send st _) ?_
  simp only [Device.createJob, Device.modCtx_modCtx]
  exact Device.modCtx_congr _ _ _ _ (by simp only [session, Option.map_some]; rfl)

end

/-! ### Admission by the funding of the session -/

theorem Account.permits_iff (a : Account) (o : JobOrder) :
    a.permits o = true ↔ (o.colour = .colour → a.colourPermitted = true) ∧ o.size ≤ a.maxSize := by
  cases colour : o.colour <;> simp [Account.permits, colour]

section
variable {d : Device} {st : Station} {s : Session} {o : JobOrder} (session : (d.ctx st).session = some s)
include session

theorem Device.admission_of_account {n : Nat} (account : s.funding = .account n) :
    d.admission st (some o) = d.admitAccount st s n o := by
  simp only [Device.admission, session, account]

theorem Device.admission_of_card {ref : SlotRef} (card : s.funding = .card ref) :
    d.admission st (some o) = d.admitCard st s ref.slot o := by
  simp only [Device.admission, session, card]

/-- R33, R34, R90: the answers of an account to a job order. -/
theorem Device.admission_account {n : Nat} {a : Account} (account : s.funding = .account n) (known : d.account n = some a)
    (asked : (d.ctx st).refillAsked = none) (path : d.path st = []) {side : Nat}
    (priced : d.sidePrice s.bank (priceClass o.size o.colour) = side) :
    let price := o.sides * side
    let draw := min (max d.mgmt.params.drawSize price) a.available
    let allowance := allowanceOf draw side
    let permitted := (o.colour = .colour → a.colourPermitted = true) ∧ o.size ≤ a.maxSize
    let refused := fun r => d.admission st (some o) = (d, some r)
    (¬ permitted → refused .notAllowed) ∧
    (permitted → a.state = .closed → refused .closed) ∧
    (permitted → a.state = .stopped → refused .stopped) ∧
    (permitted → a.state = .active → a.waiting ≠ [] ∨ a.available < price → refused .noFunds) ∧
    (permitted → a.state = .active → a.waiting = [] → price ≤ a.available →
      d.admission st (some o) =
        ((d.drawn n draw).started st s .running none (o.begun (some draw) allowance) (.go allowance), none)) := by
  subst priced
  intro price draw allowance permitted refused
  have admits : permitted → d.admission st (some o) =
      (match (d.admissionDraw st n price).2 with
      | .ok draw => (((d.admissionDraw st n price).1.createJob st (o.job (some draw) .none)).enterRunning st, none)
      | .error e => ((d.admissionDraw st n price).1, some e)) := fun yes => by
    rw [Device.admission_of_account session account, Device.admitAccount, known]
    exact if_pos ((a.permits_iff o).mpr yes)
  have drawn : d.admissionDraw st n price = match a.state with
      | .closed => (d, .error .closed)
      | .stopped => (d, .error .stopped)
      | .active =>
        if a.waiting ≠ [] ∨ a.available < price then (d, .error .noFunds)
        else (d.drawn n draw, .ok draw) := by
    rw [Device.admissionDraw, Device.takeRefill_of_none asked, known]
    rfl
  refine ⟨fun no => ?_, fun yes closed => ?_, fun yes stopped => ?_, fun yes active short => ?_,
    fun yes active free enough => ?_⟩
  · change d.admission st (some o) = (d, some .notAllowed)
    rw [Device.admission_of_account session account, Device.admitAccount, known]
    exact if_neg fun e => no ((a.permits_iff o).mp e)
  · change d.admission st (some o) = (d, some .closed)
    rw [admits yes, drawn, closed]
  · change d.admission st (some o) = (d, some .stopped)
    rw [admits yes, drawn, stopped]
  · change d.admission st (some o) = (d, some .noFunds)
    rw [admits yes, drawn, active]
    simp only [if_pos short]
  · have covered : ¬ (a.waiting ≠ [] ∨ a.available < price) := by simp [free, enough]
    rw [admits yes, drawn, active]
    simp only [if_neg covered]
    rw [Device.createJob_enterRunning (s := s) (by exact session) (by exact path)]
    have allowed : (d.drawn n draw).allowance s (o.job (some draw) .none) [] = allowance := by
      simp only [Device.allowance, account]; rfl
    rw [allowed]

/-- R33, R35, R122: the answers of a hold to a job order. -/
theorem Device.admission_card {ref : SlotRef} (card : s.funding = .card ref) (path : d.path st = []) {slot : Slot} {side : Nat}
    (stands : d.slot ref.slot = slot) (priced : d.sidePrice s.bank (priceClass o.size o.colour) = side) :
    let price := o.sides * side
    let allowance := allowanceOf slot.headroom side
    let refused := fun t => d.admission st (some o) = (t, some DenyReason.noFunds)
    let held := fun (x : Device) => d.admission st (some o) =
      (x.started st s .held (some d.mgmt.params.idleTime) (o.job none .renew) (.pause .funds), none)
    (slot.state = .active ∨ slot.state = .renewing → price ≤ slot.headroom → d.admission st (some o) =
      (d.started st s .running none (o.begun none allowance) (.go allowance), none)) ∧
    (slot.state = .active → slot.headroom < price → slot.renewalsRefused = false → slot.approved < 16777215 →
      held (d.renewalQueued ref.slot)) ∧
    (slot.state = .renewing → slot.headroom < price → slot.renewalsRefused = false → held (d.renewalMarked ref.slot)) ∧
    (slot.state = .active → slot.headroom < price → slot.renewalsRefused = false → 16777215 ≤ slot.approved →
      refused (d.modSlot ref.slot fun s => { s with renewalsRefused := true })) ∧
    ((slot.state ≠ .active ∧ slot.state ≠ .renewing) ∨ (slot.headroom < price ∧ slot.renewalsRefused = true) →
      refused d) := by
  subst stands priced
  intro price allowance refused held
  have admits := Device.admission_of_card (o := o) session card
  have seeks : (d.slot ref.slot).state = .active ∨ (d.slot ref.slot).state = .renewing → (d.slot ref.slot).headroom < price →
      (d.slot ref.slot).renewalsRefused = false →
      d.admission st (some o) = (if (d.fundsRenewal ref.slot).2 then
        (((d.fundsRenewal ref.slot).1.createJob st (o.job none .renew)).enterHeld st, none)
        else ((d.fundsRenewal ref.slot).1, some .noFunds)) := by
    intro standing short allowed
    have stands : ((d.slot ref.slot).state == .active || (d.slot ref.slot).state == .renewing) = true := by
      simpa using standing
    have uncovered : ¬ d.oneSheetPrice s.bank (o.job none .none) ≤ (d.slot ref.slot).headroom := Nat.not_le.mpr short
    rw [admits]
    simp only [Device.admitCard, stands, uncovered, allowed, decide_false, Bool.and_false, Bool.false_eq_true, if_false,
      Bool.not_false, Bool.and_true, if_true]
  refine ⟨fun standing enough => ?_, fun active short allowed below => ?_, fun renewing short allowed => ?_,
    fun active short allowed limit => ?_, fun none => ?_⟩
  · have stands : ((d.slot ref.slot).state == .active || (d.slot ref.slot).state == .renewing) = true := by
      simpa using standing
    have covered : d.oneSheetPrice s.bank (o.job none .none) ≤ (d.slot ref.slot).headroom := enough
    rw [admits, Device.admitCard]
    simp only [stands, covered, decide_true, Bool.and_true, if_true]
    have allowed : d.allowance s (o.job none .none) [] = allowance := by simp only [Device.allowance, card]; rfl
    rw [Device.createJob_enterRunning session path, allowed]
  · change d.admission st (some o) = _
    rw [seeks (.inl active) short allowed, Device.fundsRenewal_of_active active allowed below, if_pos rfl]
    rw [Device.createJob_enterHeld (s := s) (by exact session) (by exact path)]
    rfl
  · change d.admission st (some o) = _
    rw [seeks (.inr renewing) short allowed, Device.fundsRenewal_of_renewing renewing, if_pos rfl]
    rw [Device.createJob_enterHeld (s := s) (by exact session) (by exact path)]
    rfl
  · change d.admission st (some o) = _
    rw [seeks (.inl active) short allowed, Device.fundsRenewal_of_limit active allowed limit]
    rfl
  · change d.admission st (some o) = _
    rw [admits, Device.admitCard]
    rcases none with ⟨notActive, notRenewing⟩ | ⟨short, spent⟩
    · have fallen : ((d.slot ref.slot).state == .active || (d.slot ref.slot).state == .renewing) = false := by
        simpa using ⟨notActive, notRenewing⟩
      simp [fallen]
    · have uncovered : ¬ d.oneSheetPrice s.bank (o.job none .none) ≤ (d.slot ref.slot).headroom := Nat.not_le.mpr short
      simp [uncovered, spent]

end

/-! ### A START in OPEN -/

section
variable {d : Device} {st : Station}

theorem Device.awake_of_opened (opened : (d.ctx st).state = .opened) :
    d.awake st = (d.heard st).modCtx st fun c => { c with idleTimer := some d.mgmt.params.idleTime } := by
  rw [Device.awake, opened]

theorem Device.takeStart_admits {order : Option JobOrder} {t : Device} (opened : (d.ctx st).state = .opened)
    (h : d.admission st order = (t, none)) : d.takeStart st order = t := by
  rw [Device.takeStart, opened]
  simp only [h]

theorem Device.takeStart_denies {order : Option JobOrder} {t : Device} {r : DenyReason} (opened : (d.ctx st).state = .opened)
    (h : d.admission st order = (t, some r)) : d.takeStart st order = t.send st (.deny r) := by
  rw [Device.takeStart, opened]
  simp only [h]
  rfl

end

/-- Settles O21. -/
theorem accountJobIsAdmitted : Obligations.AccountJobIsAdmitted := by
  intro d q st sheets sets sides size colour last o s n a h opened session account known asked path order side price
    available draw allowance run permitted
  let y := (d.heard st).modCtx st fun c => { c with idleTimer := some d.mgmt.params.idleTime }
  have awake : d.awake st = y := Device.awake_of_opened opened
  have ctx : y.ctx st = { d.ctx st with idleTimer := some d.mgmt.params.idleTime } := Device.ctx_modCtx _ st _
  have taken : run = .next ⟨(y.takeStart st (some o)).transmit st, q⟩ := by
    rw [← awake, ← order]
    exact exec_start q h (by simp [opened]) sheets sets sides size colour last
  have isOpen : (y.ctx st).state = .opened := by rw [ctx]; exact opened
  have denied : ∀ r, y.admission st (some o) = (y, some r) →
      run = .next ⟨((d.awake st).send st (.deny r)).transmit st, q⟩ := fun r answer => by
    rw [taken, Device.takeStart_denies isOpen answer, awake]
  obtain ⟨notAllowed, closed, stopped, noFunds, admitted⟩ := Device.admission_account (d := y) (o := o) (a := a)
    (by rw [ctx]; exact session) account known (by rw [ctx]; exact asked) path rfl
  refine ⟨fun no => denied _ (notAllowed no), fun yes state => denied _ (closed yes state),
    fun yes state => denied _ (stopped yes state), fun yes state short => denied _ (noFunds yes state short),
    fun yes active free enough => ?_⟩
  let x := y.drawn n draw
  let t := x.started st s .running none (o.begun (some draw) allowance) (.go allowance)
  have admits : y.admission st (some o) = (t, none) := admitted yes active free enough
  have steady : d.Steady t := (((Device.Steady.heard d st).trans (.modCtx _ st _)).trans (.modAccount y n _)).trans
    (.started x st s _ _ _ _)
  have lines : y.LinesOnly t := (Device.LinesOnly.of_eq rfl).trans (x.started_lines st s _ _ _ _)
  refine ⟨t, taken.trans (by rw [Device.takeStart_admits isOpen admits]), ?_, ?_, fun m hm => ?_, ?_, (lines.path st).trans path,
    ?_, ⟨lines.slots, lines.payQueue, lines.outstanding, steady.staleVoids, lines.payReports⟩, steady.setupSame,
    steady.uplinkSame lines.reports, steady.exporting, lines.tariff⟩
  · have unchanged : x.ctx st = y.ctx st := rfl
    rw [Device.ctx_started, unchanged, ctx]
    rfl
  · have lowered := y.account_modAccount n (fun a => { a with draws := a.draws + draw }) fun _ => rfl
    have entry : y.account n = some a := known
    rw [Device.account_started]
    exact lowered.trans (by rw [entry]; rfl)
  · exact (x.account_started st s _ _ _ _ m).trans (y.account_modAccount_ne n m _ (fun _ => rfl) hm)
  · rw [Device.port_started, Device.port_send]
    rfl
  · exact (((Device.OthersSame.heard d st).trans (.modCtx _ st _)).trans (.modAccount y st n _)).trans (.started x st s _ _ _ _)

/-- Settles O22. -/
theorem cardJobIsAdmitted : Obligations.CardJobIsAdmitted := by
  intro d q st sheets sets sides size colour last o s ref h opened session card path order slot side price headroom
    allowance run held
  let y := (d.heard st).modCtx st fun c => { c with idleTimer := some d.mgmt.params.idleTime }
  have awake : d.awake st = y := Device.awake_of_opened opened
  have ctx : y.ctx st = { d.ctx st with idleTimer := some d.mgmt.params.idleTime } := Device.ctx_modCtx _ st _
  have taken : run = .next ⟨(y.takeStart st (some o)).transmit st, q⟩ := by
    rw [← awake, ← order]
    exact exec_start q h (by simp [opened]) sheets sets sides size colour last
  have isOpen : (y.ctx st).state = .opened := by rw [ctx]; exact opened
  have denied : ∀ x, y.admission st (some o) = (x, some .noFunds) →
      run = .next ⟨(x.send st (.deny .noFunds)).transmit st, q⟩ := fun x answer => by
    rw [taken, Device.takeStart_denies isOpen answer]
  have same : d.OthersSame y st := (Device.OthersSame.heard d st).trans (.modCtx _ st _)
  have before : d.Steady y := (Device.Steady.heard d st).trans (.modCtx _ st _)
  -- The part `x` is `y` with at most its slots and payment requests changed.
  have waits : ∀ x slots payQueue, x = { y with slots := slots, payQueue := payQueue } →
      (∀ i, i ≠ ref.slot → x.slot i = d.slot i) → y.admission st (some o) =
        (x.started st s .held (some d.mgmt.params.idleTime) (o.job none .renew) (.pause .funds), none) →
      ∃ t : Device, run = .next ⟨t.transmit st, q⟩ ∧ t.ctx st = held ∧ t.slot ref.slot = x.slot ref.slot ∧
        t.payQueue = x.payQueue ∧ t.port st = ((d.heard st).send st (.pause .funds)).port st ∧ t.path st = [] ∧
        d.OthersSame t st ∧ d.OtherSlotsSame t ref.slot ∧ d.BooksSame t ∧ d.SetupSame t ∧ d.UplinkSame t := by
    rintro x slots payQueue rfl others answer
    let x := { y with slots := slots, payQueue := payQueue }
    have steady : d.Steady (x.started st s .held (some d.mgmt.params.idleTime) (o.job none .renew) (.pause .funds)) :=
      (before.trans (.quiet (t := x) rfl rfl rfl rfl rfl rfl rfl rfl rfl rfl rfl rfl rfl rfl rfl)).trans (.started x st s _ _ _ _)
    have lines := x.started_lines st s .held (some d.mgmt.params.idleTime) (o.job none .renew) (.pause .funds)
    refine ⟨_, taken.trans (by rw [Device.takeStart_admits isOpen answer]), ?_, lines.slot ref.slot, lines.payQueue, ?_,
      (lines.path st).trans path, (same.trans (.of_eq (t := x) rfl rfl rfl)).trans (.started x st s _ _ _ _),
      fun i hi => (lines.slot i).trans (others i hi), ⟨x.accounts_started st s _ _ _ _, steady.exporting⟩, steady.setupSame,
      steady.uplinkSame lines.reports⟩
    · have unchanged : x.ctx st = y.ctx st := rfl
      rw [Device.ctx_started, unchanged, ctx]
    · rw [Device.port_started, Device.port_send]
      rfl
  obtain ⟨goes, renews, joins, limited, refused⟩ := Device.admission_card (d := y) (o := o)
    (by rw [ctx]; exact session) card path rfl rfl
  refine ⟨fun standing enough => ?_, fun active short allowed below => ?_, fun renewing short allowed => ?_,
    fun active short allowed limit => ?_, fun none => ?_⟩
  · let t := y.started st s .running none (o.begun none allowance) (.go allowance)
    have answer : y.admission st (some o) = (t, none) := goes standing enough
    have steady : d.Steady t := before.trans (.started y st s _ _ _ _)
    have lines := y.started_lines st s .running none (o.begun none allowance) (.go allowance)
    refine ⟨t, taken.trans (by rw [Device.takeStart_admits isOpen answer]), ?_, ?_, (lines.path st).trans path,
      same.trans (.started y st s _ _ _ _),
      ⟨lines.slots, lines.payQueue, lines.outstanding, steady.staleVoids, lines.payReports⟩,
      ⟨y.accounts_started st s _ _ _ _, steady.exporting⟩, steady.setupSame, steady.uplinkSame lines.reports, lines.tariff⟩
    · rw [Device.ctx_started, ctx]
      rfl
    · rw [Device.port_started, Device.port_send]
      rfl
  · obtain ⟨t, ran, isHeld, asked, queue, rest⟩ := waits (y.renewalQueued ref.slot) _ _ rfl
      (fun i hi => Device.slot_modSlot_ne y ref.slot i _ hi) (renews active short allowed below)
    exact ⟨t, ran, isHeld, asked.trans (Device.slot_modSlot y ref.slot _), queue, rest⟩
  · obtain ⟨t, ran, isHeld, asked, queue, rest⟩ := waits (y.renewalMarked ref.slot) _ _ rfl
      (fun i hi => Device.slot_modSlot_ne y ref.slot i _ hi) (joins renewing short allowed)
    exact ⟨t, ran, isHeld, asked.trans (Device.slot_modSlot y ref.slot _), queue, rest⟩
  · rw [denied _ (limited active short allowed limit), awake]
  · rw [denied _ (refused none), awake]

end Sys2Proof.Machine
end

section
/-! PROOF. A START that replaces the running job (O23). -/

namespace Sys2Proof.Machine

section
variable {d : Device} {st : Station} {order : Option JobOrder} {t : Device}

/-- R36: a START in RUNNING with nothing on the path and no end pending replaces the job. -/
theorem Device.takeStart_replaces (running : (d.ctx st).state = .running) (path : d.path st = [])
    (pending : (d.ctx st).endPending = none) : d.takeStart st order = d.replaceJob st order := by
  simp [Device.takeStart, running, Device.pathEmpty, path, pending]

theorem Device.replaceJob_admits (h : (d.endJob st .replaced true).admission st order = (t, none)) :
    d.replaceJob st order = t := by
  simp only [Device.replaceJob, h]

theorem Device.replaceJob_denies {r : DenyReason} (h : (d.endJob st .replaced true).admission st order = (t, some r)) :
    d.replaceJob st order = (t.send st (.deny r)).enterOpen st := by
  simp only [Device.replaceJob, h]
  rfl

end

theorem Device.FundsOnly.drawn (x : Device) (n draw : Nat) : x.FundsOnly (x.drawn n draw) := ⟨rfl, .modAccount x n _⟩

/-- R36, R50: the part `x` is `d` with its station's job ended as replaced. -/
structure Device.JobReplaced (d x : Device) (st : Station) : Prop where
  ctx : x.ctx st = { d.ctx st with job := none, waitTimer := none, accountMail := (x.ctx st).accountMail }
  port : x.port st = ((d.heard st).send st (.jobEnd .replaced)).port st
  path : x.path st = []
  others : d.OthersSameButMail x st
  lines : d.LinesOnly x
  steady : d.Steady x

/-- What the replacement of a job leaves alone, whatever the answer to the order: `d` is the part before, `x` with the old job
ended, `z` with the funding sources asked, `t` afterwards. -/
structure Device.Answered (d x z t : Device) (st : Station) : Prop where
  path : t.path st = []
  others : d.OthersSameButMail t st
  exporting : t.exporting = d.exporting
  setup : d.SetupSame t
  uplink : d.UplinkSame t
  tariff : t.tariff = d.tariff
  slots : t.slots = z.slots
  payQueue : t.payQueue = z.payQueue
  accounts : t.accounts = z.accounts
  payments : z.slots = d.slots → z.payQueue = d.payQueue → d.PaymentsSame t
  mail : ∀ y, (t.ctx y).accountMail = (x.ctx y).accountMail

theorem Device.Answered.slot {d x z t : Device} {st : Station} (h : d.Answered x z t st) (i : SlotNo) : t.slot i = z.slot i :=
  congrArg (·[i]) h.slots

namespace Device.JobReplaced

variable {d x z : Device} {st : Station} {s : Session}

theorem answered {t : Device} (h : d.JobReplaced x st) (funds : x.FundsOnly z) (lines : z.LinesOnly t)
    (accounts : t.accounts = z.accounts) (others : z.OthersSame t st) (steady : z.Steady t)
    (mail : (t.ctx st).accountMail = (z.ctx st).accountMail) : d.Answered x z t st := by
  have kept := (h.steady.trans funds.steady).trans steady
  refine ⟨?_, ?_, kept.exporting, kept.setupSame, kept.uplinkSame ?_, ?_, lines.slots, lines.payQueue, accounts,
    fun slots queue => ?_, fun y => ?_⟩
  · rw [lines.path, funds.path, h.path]
  · exact h.others.trans (.of_othersSame ((funds.othersSame st).trans others))
  · rw [lines.reports, funds.reports, h.lines.reports]
  · rw [lines.tariff, funds.tariff, h.lines.tariff]
  · refine ⟨lines.slots.trans slots, lines.payQueue.trans queue, ?_, kept.staleVoids, ?_⟩
    · rw [lines.outstanding, funds.outstanding, h.lines.outstanding]
    · rw [lines.payReports, funds.payReports, h.lines.payReports]
  · by_cases hy : y = st
    · subst hy; rw [mail, funds.ctx]
    · rw [(others y hy).1, funds.ctx]

/-- R36: an order refused: the DENY, and the station enters OPEN with its BALANCE. -/
theorem denied (h : d.JobReplaced x st) (session : (d.ctx st).session = some s) (funds : x.FundsOnly z) (r : DenyReason) :
    let t := (z.send st (.deny r)).enterOpen st
    d.Answered x z t st ∧
    t.ctx st = { d.ctx st with
      state := .opened, job := none, dozeTimer := none, idleTimer := some d.mgmt.params.idleTime, waitTimer := none
      jamTimer := none, accountMail := (t.ctx st).accountMail } ∧
    t.port st = (((((d.heard st).send st (.jobEnd .replaced)).send st (.deny r)).send st
      (.balance (z.remainingOf s.funding))).port st) := by
  intro t
  have session' : ((z.send st (.deny r)).ctx st).session = some s := by
    rw [Device.send_ctx, funds.ctx, h.ctx]; exact session
  have mgmt : z.mgmt = d.mgmt := funds.steady.mgmt.trans h.steady.mgmt
  have remaining : (z.send st (.deny r)).remainingOf s.funding = z.remainingOf s.funding := by
    cases s.funding <;> simp [Device.remainingOf]
  have ctx : t.ctx st = { x.ctx st with
      state := .opened, dozeTimer := none, idleTimer := some d.mgmt.params.idleTime, waitTimer := none, jamTimer := none } := by
    rw [Device.ctx_enterOpen, Device.send_ctx, Device.send_mgmt, funds.ctx, mgmt]
  refine ⟨h.answered funds ((Device.LinesOnly.of_eq (z.send_rest st _)).trans (.enterOpen _ st)) (by simp [t])
    ((Device.OthersSame.send z st _).trans (.enterOpen _ st)) ((Device.Steady.send z st _).trans (.enterOpen _ st)) ?_, ?_, ?_⟩
  · rw [ctx, funds.ctx]
  · rw [ctx, h.ctx]
  · rw [Device.port_enterOpen session', remaining, Device.port_send, Device.port_send, Device.port_send, funds.port, h.port]

/-- R36: an order admitted is a new job. -/
theorem started (h : d.JobReplaced x st) (funds : x.FundsOnly z) (state : StationState) (wait : Option Nat)
    (k : Job) (f : StationFrame) :
    let t := z.started st s state wait k f
    d.Answered x z t st ∧
    t.ctx st = { d.ctx st with
      state := state, job := some k, session := some { s with jobs := s.jobs + 1 }, dozeTimer := none, idleTimer := none
      waitTimer := wait, jamTimer := none, accountMail := (t.ctx st).accountMail } ∧
    t.port st = (((d.heard st).send st (.jobEnd .replaced)).send st f).port st := by
  intro t
  have ctx := z.ctx_started st s state wait k f
  refine ⟨h.answered funds (z.started_lines st s state wait k f) (z.accounts_started st s state wait k f)
    (.started z st s state wait k f) (.started z st s state wait k f) (by rw [ctx]), ?_, ?_⟩
  · rw [ctx, funds.ctx, h.ctx]
  · rw [Device.port_started, Device.port_send, funds.port, h.port]

end Device.JobReplaced

theorem Meters.jobEnded_of_incomplete {r : JobEndReason} (h : r ≠ .complete) (m : Meters) : m.jobEnded r = m := by
  simp [Meters.jobEnded, h]

/-- R50: the end of the old job, whose refill, if it has asked one, has been answered. -/
theorem Device.JobEnded.replaced {d x : Device} {st : Station} {draw : Nat}
    (h : (d.heard st).JobEnded x st .replaced true draw) (steady : d.Steady x) (path : d.path st = [])
    (asked : (x.ctx st).refillAsked = (d.ctx st).refillAsked) : d.JobReplaced x st where
  ctx := by
    have ctx := h.ctx
    rw [asked, Meters.jobEnded_of_incomplete (by simp)] at ctx
    exact ctx
  port := by rw [h.port, Device.port_send]; rfl
  path := (h.rest.path st).trans path
  others := (Device.OthersSameButMail.of_othersSame (.heard d st)).trans h.others
  lines := (Device.LinesOnly.of_eq rfl).trans h.rest
  steady := steady

/-- Settles O23. -/
theorem startReplacesJob : Obligations.StartReplacesJob := by
  intro d q st sheets sets sides size colour last s j h running session job path pending run told base denied started allowance
  let y := d.heard st
  have notDoze : (d.ctx st).state ≠ .doze := by simp [running]
  have heard : d.awake st = y := d.awake_eq_heard st (by simp [running]) (by simp [running])
  have taken : run = .next ⟨(y.replaceJob st (readOrder sheets sets sides size colour last)).transmit st, q⟩ := by
    rw [← Device.takeStart_replaces (d := y) running path pending, ← heard]
    exact exec_start q h notDoze sheets sets sides size colour last
  have ended : y.JobEnded (y.endJob st .replaced true) st .replaced true (j.draw.getD 0) :=
    Device.endJob_ended (d := y) job .replaced true
  have steady : d.Steady (y.endJob st .replaced true) := (Device.Steady.heard d st).trans (.endJob y st .replaced true)
  have denies := fun order t r => Device.replaceJob_denies (d := y) (st := st) (order := order) (t := t) (r := r)
  have admits := fun order t => Device.replaceJob_admits (d := y) (st := st) (order := order) (t := t)
  generalize y.endJob st .replaced true = x at ended steady denies admits
  have xSession : (x.ctx st).session = some s := ended.session.trans session
  have xPath : x.path st = [] := (ended.rest.path st).trans path
  have xTariff : x.tariff = d.tariff := ended.rest.tariff
  have xMgmt : x.mgmt = d.mgmt := ended.rest.mgmt
  have isDenied : d.JobReplaced x st → ∀ {order z r}, readOrder sheets sets sides size colour last = order → x.FundsOnly z →
      x.admission st order = (z, some r) → ∃ t, denied t r (z.remainingOf s.funding) ∧ d.Answered x z t st :=
    fun replaced {order z r} read funds answer => by
      obtain ⟨frame, ctx, port⟩ := replaced.denied session funds r
      refine ⟨_, ⟨⟨taken.trans (by rw [read, denies order z r answer]), frame.path, frame.others, frame.exporting, frame.setup,
        frame.uplink, frame.tariff⟩, ctx, port⟩, frame⟩
  have isStarted : d.JobReplaced x st → ∀ {order z state wait k f}, readOrder sheets sets sides size colour last = order →
      x.FundsOnly z → x.admission st order = (z.started st s state wait k f, none) →
      ∃ t, started t state wait k f ∧ d.Answered x z t st :=
    fun replaced {order z state wait k f} read funds answer => by
      obtain ⟨frame, ctx, port⟩ := replaced.started (s := s) funds state wait k f
      refine ⟨_, ⟨⟨taken.trans (by rw [read, admits order _ answer]), frame.path, frame.others, frame.exporting, frame.setup,
        frame.uplink, frame.tariff⟩, ctx, port⟩, frame⟩
  have unread : x.admission st none = (x, some .badJob) := rfl
  refine ⟨?_, fun n a account known asked => ?_⟩
  · intro ref card slot balance headroom
    obtain ⟨accounts, -, asked⟩ := ended.card s ref session card
    have replaced : d.JobReplaced x st := ended.replaced steady path asked
    have xSlot : x.slot ref.slot = slot := ended.rest.slot ref.slot
    have slots : x.slots = d.slots := ended.rest.slots
    have queue : x.payQueue = d.payQueue := ended.rest.payQueue
    have left : ∀ z : Device, (z.slot ref.slot).approved = slot.approved → (z.slot ref.slot).consumed = slot.consumed →
        z.remainingOf s.funding = balance := fun z approved consumed => by
      rw [card, Device.remainingOf, approved, consumed]
    have xLeft : x.remainingOf s.funding = balance := left x (by rw [xSlot]) (by rw [xSlot])
    have refusedAs : ∀ {order r}, readOrder sheets sets sides size colour last = order →
        x.admission st order = (x, some r) → ∃ t : Device, denied t r balance ∧ d.PaymentsSame t ∧ t.accounts = d.accounts :=
      fun {order r} read answer => by
        obtain ⟨t, isDenied, rest⟩ := isDenied replaced read (.refl x) answer
        rw [xLeft] at isDenied
        exact ⟨t, isDenied, rest.payments slots queue, rest.accounts.trans accounts⟩
    have others : ∀ {z t : Device}, d.Answered x z t st → (∀ i, i ≠ ref.slot → z.slot i = x.slot i) →
        d.OtherSlotsSame t ref.slot := fun rest same i hi => ((rest.slot i).trans (same i hi)).trans (ended.rest.slot i)
    refine ⟨fun read => refusedAs read unread, ?_⟩
    intro o read side
    obtain ⟨goes, renews, joins, limited, refused⟩ :=
      Device.admission_card (o := o) (side := side) xSession card xPath xSlot (by rw [Device.sidePrice, xTariff])
    refine ⟨fun standing enough => ?_, fun active short allowed below => ?_, fun renewing short allowed => ?_,
      fun active short allowed limit => ?_, fun none => refusedAs read (refused none)⟩
    · obtain ⟨t, isStarted, rest⟩ := isStarted replaced read (.refl x) (goes standing enough)
      exact ⟨t, isStarted, rest.payments slots queue, rest.accounts.trans accounts⟩
    · obtain ⟨t, isStarted, rest⟩ := isStarted replaced read (.renewalQueued x ref.slot) (renews active short allowed below)
      rw [xMgmt] at isStarted
      refine ⟨t, isStarted, (rest.slot ref.slot).trans ((x.slot_modSlot ref.slot _).trans (by rw [xSlot])),
        rest.payQueue.trans ?_, others rest fun i hi => x.slot_modSlot_ne ref.slot i _ hi, rest.accounts.trans accounts⟩
      change x.payQueue ++ [{ ref := x.slotRef ref.slot, kind := .renew }] = _
      rw [queue, Device.slotRef, xSlot]
      rfl
    · obtain ⟨t, isStarted, rest⟩ := isStarted replaced read (.modSlot x ref.slot _) (joins renewing short allowed)
      rw [xMgmt] at isStarted
      exact ⟨t, isStarted, (rest.slot ref.slot).trans ((x.slot_modSlot ref.slot _).trans (by rw [xSlot])),
        rest.payQueue.trans queue, others rest fun i hi => x.slot_modSlot_ne ref.slot i _ hi, rest.accounts.trans accounts⟩
    · obtain ⟨t, isDenied, rest⟩ := isDenied replaced read (.modSlot x ref.slot _) (limited active short allowed limit)
      have changed := (x.slot_modSlot ref.slot fun s => { s with renewalsRefused := true }).trans (by rw [xSlot])
      rw [left _ (by rw [changed]) (by rw [changed])] at isDenied
      exact ⟨t, isDenied, (rest.slot ref.slot).trans changed, rest.payQueue.trans queue,
        others rest fun i hi => x.slot_modSlot_ne ref.slot i _ hi, rest.accounts.trans accounts⟩
  · obtain ⟨xAsked, b, given⟩ := ended.account s n a session account known asked
    have replaced : d.JobReplaced x st := ended.replaced steady path (xAsked.trans asked.symm)
    have entry : x.account n = some b := given.entry
    have slots : x.slots = d.slots := ended.rest.slots
    have queue : x.payQueue = d.payQueue := ended.rest.payQueue
    refine ⟨x, b, given.of_before (fun _ _ => rfl) rfl (fun _ => rfl), ?_⟩
    intro available refused
    have left : x.remainingOf s.funding = available := by rw [account, Device.remainingOf, entry]; rfl
    have refusedAs : ∀ {order r}, readOrder sheets sets sides size colour last = order →
        x.admission st order = (x, some r) → refused r := fun {order r} read answer => by
      obtain ⟨t, isDenied, rest⟩ := isDenied replaced read (.refl x) answer
      rw [left] at isDenied
      exact ⟨t, isDenied, rest.payments slots queue, rest.accounts, rest.mail⟩
    refine ⟨fun read => refusedAs read unread, ?_⟩
    intro o read side price draw permitted
    obtain ⟨notAllowed, closed, stopped, noFunds, admitted⟩ := Device.admission_account (o := o) (side := side)
      xSession account entry xAsked xPath (by rw [Device.sidePrice, xTariff])
    rw [xMgmt] at admitted
    refine ⟨fun no => refusedAs read (notAllowed no), fun yes state => refusedAs read (closed yes state),
      fun yes state => refusedAs read (stopped yes state), fun yes state short => refusedAs read (noFunds yes state short),
      fun yes active free enough => ?_⟩
    obtain ⟨t, isStarted, rest⟩ := isStarted replaced read (.drawn x n draw) (admitted yes active free enough)
    refine ⟨t, isStarted, rest.payments slots queue, ?_, fun m hm => ?_, rest.mail⟩
    · have lowered := x.account_modAccount n (fun a => { a with draws := a.draws + draw }) fun _ => rfl
      rw [Device.account_of_accounts rest.accounts]
      exact lowered.trans (by rw [entry]; rfl)
    · rw [Device.account_of_accounts rest.accounts]
      exact (x.account_modAccount_ne n m (fun a => { a with draws := a.draws + draw }) (fun _ => rfl) hm).trans
        (given.others m hm)

end Sys2Proof.Machine
end

section
/-! PROOF. A sheet fed (O24): the entry it makes and the funds it seeks (R39 to R41). -/

namespace Sys2Proof.Machine

/-! ### What a FEED says of its sheet -/

theorem feedSize_of_good {own z : SizeClass} {b : Byte}
    (h : (b = 0xFF#8 ∧ z = own) ∨ (b ≠ 0xFF#8 ∧ b.toNat = z.val)) : feedSize own b = (z, false) := by
  rcases h with ⟨own', rfl⟩ | ⟨given, size⟩
  · simp [feedSize, own']
  · have good : readSize b = some z := by
      simp only [readSize, size, z.isLt, dif_pos, Fin.eta]
    simp only [feedSize, if_neg given, good]

theorem feedColour_of_good {own m : ColourMode} {b : Byte}
    (h : (b = 0xFF#8 ∧ m = own) ∨ (b ≠ 0xFF#8 ∧ b.toNat = m.number)) : feedColour own b = (m, false) := by
  rcases h with ⟨own', rfl⟩ | ⟨given, colour⟩
  · simp [feedColour, own']
  · have good : readColour b = some m := by
      cases m with
      | mono => rw [BitVec.eq_of_toNat_eq (x := b) (y := 0#8) colour]; rfl
      | colour => rw [BitVec.eq_of_toNat_eq (x := b) (y := 1#8) colour]; rfl
    simp only [feedColour, if_neg given, good]

/-! ### The sheet joins the path -/

/-- R40: a FEED's entry on the path and its sheet counted, before the job seeks funds. -/
def Device.sheetFed (d : Device) (st : Station) (s : Session) (e : PathEntry) : Device :=
  (((d.joinEntry st s e).modJob st Job.feed).pathFilled st).modCtx st fun c => { c with waitTimer := none }

theorem Device.feedSheet_of_good {d : Device} {st : Station} {o : Half} {size colour : Byte} {j : Job} {z : SizeClass}
    {m : ColourMode} (s : Session) (absent : ∀ e ∈ d.path st, e.ordinal ≠ o) (room : (d.path st).length < 8)
    (sized : feedSize j.size size = (z, false)) (coloured : feedColour j.colour colour = (m, false)) :
    d.feedSheet st s j o size colour = (d.sheetFed st s (d.newEntry st s j o z m)).fundsTrigger st := by
  have new : carries (d.path st) o = false := by simpa [carries] using absent
  have few : ¬ Config.pathCapacity ≤ (d.path st).length := Nat.not_le.mpr room
  simp only [Device.feedSheet, new, sized, coloured, Device.protocolFaultIf, Bool.or_self, Bool.false_eq_true, if_false, few]
  rfl

/-- R40: the entry is on the list, and the charge of a card session's sheet is reserved. -/
structure Device.EntryJoined (d x : Device) (st : Station) (s : Session) (e : PathEntry) : Prop where
  path : x.path st = d.path st ++ [e]
  rest : x = { d with paths := x.paths, slots := x.slots }
  others : d.OthersSame x st
  account : ∀ n, s.funding = .account n → x.slots = d.slots
  card : ∀ ref, s.funding = .card ref →
    x.slot ref.slot = { d.slot ref.slot with provisional := (d.slot ref.slot).provisional + e.provisional } ∧
      d.OtherSlotsSame x ref.slot

theorem Device.joinEntry_joined (d : Device) (st : Station) (s : Session) (e : PathEntry) :
    d.EntryJoined (d.joinEntry st s e) st s e := by
  let p := d.path st ++ [e]
  have path : (d.setPath st p).path st = p := d.path_setPath st p
  have others : d.OthersSame (d.setPath st p) st := fun x hx => ⟨rfl, d.path_setPath_ne st x p hx, rfl⟩
  cases funding : s.funding with
  | account n =>
    have joins : d.joinEntry st s e = d.setPath st p := by simp only [Device.joinEntry, funding]; rfl
    rw [joins]
    exact ⟨path, rfl, others, fun _ _ => rfl, fun ref card => Funding.noConfusion (funding.symm.trans card)⟩
  | card ref =>
    have joins : d.joinEntry st s e = (d.setPath st p).reserveCard ref.slot e.provisional := by
      simp only [Device.joinEntry, funding]; rfl
    rw [joins]
    refine ⟨path, rfl, others, fun n account => Funding.noConfusion (funding.symm.trans account), fun r card => ?_⟩
    obtain rfl : ref = r := Funding.card.inj (funding.symm.trans card)
    exact ⟨(d.setPath st p).slot_modSlot ref.slot _, fun i hi => (d.setPath st p).slot_modSlot_ne ref.slot i _ hi⟩

namespace Device.EntryJoined

variable {d x : Device} {st : Station} {s : Session} {e : PathEntry} (h : d.EntryJoined x st s e)
include h

theorem ctx (y : Station) : x.ctx y = d.ctx y := (congrArg (Device.ctx · y) h.rest :)
theorem port (y : Station) : x.port y = d.port y := (congrArg (Device.port · y) h.rest :)

end Device.EntryJoined

/-- R40, R47: what a FEED leaves: `d` is the part before, `x` with the sheet counted and its entry made. -/
structure Device.SheetFed (d x : Device) (st : Station) (s : Session) (j : Job) (e : PathEntry) : Prop where
  ctx : ∃ a ≤ j.allowance - j.sides, x.ctx st = { d.ctx st with
    job := some { j with fed := j.fed + 1, allowance := a }, waitTimer := none
    faults := { (d.ctx st).faults with pathFull := (d.ctx st).faults.pathFull || (d.path st).length == 7 } }
  rest : d.MeteringOnly x
  payQueue : x.payQueue = d.payQueue
  path : x.path st = d.path st ++ [e]
  others : d.OthersSame x st
  account : ∀ n, s.funding = .account n → x.slots = d.slots
  card : ∀ ref, s.funding = .card ref →
    x.slot ref.slot = { d.slot ref.slot with provisional := (d.slot ref.slot).provisional + e.provisional } ∧
      d.OtherSlotsSame x ref.slot

section
variable {d : Device} {st : Station} {j : Job}

theorem Device.pathFilled_of_room (room : (d.path st).length ≠ 8) : d.pathFilled st = d := if_neg room

/-- R31, R40: the list's eighth entry: the sticky fault, and in RUNNING no allowance. -/
theorem Device.pathFilled_filled (job : (d.ctx st).job = some j) :
    (∃ a ≤ j.allowance, (d.pathFilled st).ctx st = { d.ctx st with
      job := some { j with allowance := a }
      faults := { (d.ctx st).faults with pathFull := (d.ctx st).faults.pathFull || (d.path st).length == 8 } }) ∧
    d.LinesOnly (d.pathFilled st) ∧ (d.pathFilled st).accounts = d.accounts ∧
    d.OthersSame (d.pathFilled st) st := by
  by_cases full : (d.path st).length = 8
  case neg =>
    rw [Device.pathFilled_of_room full]
    have few : ((d.path st).length == 8) = false := beq_false_of_ne full
    exact ⟨⟨j.allowance, le_rfl, by rw [few, Bool.or_false, ← job]⟩, rfl, rfl, .refl d st⟩
  let x := d.pathFullFault st
  have faulted : x.ctx st = { d.ctx st with faults := { (d.ctx st).faults with pathFull := true } } := d.ctx_modFaults st _
  have fills : d.pathFilled st = if (d.ctx st).state = .running then x.sendPause st .pathFull else x := by
    have same : (x.ctx st).state = (d.ctx st).state := by rw [faulted]
    rw [← same]
    exact if_pos full
  by_cases running : (d.ctx st).state = .running
  · rw [fills, if_pos running]
    refine ⟨⟨0, Nat.zero_le _, ?_⟩, ?_, Device.send_accounts _ st _, ?_⟩
    · simp [Device.sendPause, Device.ctx_modJob, faulted, job, full]
    · exact (Device.LinesOnly.of_eq rfl).trans (.of_eq (Device.send_rest (x.modJob st _) st _))
    · exact ((Device.OthersSame.modCtx d st _).trans (.modCtx x st _)).trans (.send _ st _)
  · rw [fills, if_neg running]
    exact ⟨⟨j.allowance, le_rfl, by simp [faulted, full, ← job]⟩, rfl, rfl, .modCtx d st _⟩

end

theorem Device.sheetFed_fed {d : Device} {st : Station} {j : Job} (s : Session) (e : PathEntry)
    (job : (d.ctx st).job = some j) : d.SheetFed (d.sheetFed st s e) st s j e := by
  obtain ⟨path, rest, others, account, card⟩ := d.joinEntry_joined st s e
  have joined := (d.joinEntry_joined st s e).ctx st
  rw [Device.sheetFed]
  generalize d.joinEntry st s e = x at *
  have counted : (x.modJob st Job.feed).ctx st = { d.ctx st with job := some j.feed } := by
    rw [Device.ctx_modJob, joined, job]; rfl
  obtain ⟨⟨a, less, ctx⟩, lines, accounts, others'⟩ := Device.pathFilled_filled (d := x.modJob st Job.feed) (st := st) (j := j.feed)
    (by rw [counted])
  have length : ((x.modJob st Job.feed).path st).length = (d.path st).length + 1 := by
    simpa using congrArg List.length path
  generalize (x.modJob st Job.feed).pathFilled st = y at *
  have eighth : ((d.path st).length + 1 == 8) = ((d.path st).length == 7) := by simp
  have slots : y.slots = x.slots := lines.slots
  have queue : x.payQueue = d.payQueue := (congrArg Device.payQueue rest :)
  refine ⟨⟨a, less, ?_⟩, ?_, lines.payQueue.trans queue, (lines.path st).trans path, ?_, fun n h => slots.trans (account n h),
    fun ref h => ?_⟩
  · rw [Device.ctx_modCtx, ctx, counted, length, eighth]
    rfl
  · exact ((Device.MeteringOnly.of_eq rest).trans (.of_eq rfl)).trans ((Device.MeteringOnly.of_lines lines accounts).trans (.of_eq rfl))
  · exact ((others.trans (.modCtx x st _)).trans others').trans (.modCtx y st _)
  · exact ⟨(lines.slot ref.slot).trans (card ref h).1, fun i hi => (lines.slot i).trans ((card ref h).2 i hi)⟩

/-- R29: the charge of the entry is spent from the headroom. -/
theorem Device.SheetFed.headroom {d x : Device} {st : Station} {s : Session} {j : Job} {e : PathEntry}
    (h : d.SheetFed x st s j e) (session : (d.ctx st).session = some s) (job : (d.ctx st).job = some j) :
    x.headroom st = d.headroom st - e.provisional := by
  obtain ⟨a, -, ctx⟩ := h.ctx
  rw [Device.headroom_eq session job, Device.headroom_eq (d := x) (s := s) (by rw [ctx]; exact session) (by rw [ctx])]
  cases funding : s.funding with
  | account n =>
    have sum : sumProvisional (x.path st) = sumProvisional (d.path st) + e.provisional := by
      simp [h.path, sumProvisional]
    simp only [Device.headroomOf, sum]
    omega
  | card ref =>
    simp only [Device.headroomOf, (h.card ref funding).1, Slot.headroom]
    omega

/-! ### The obligation -/

section
variable {d : Device} {st : Station} {s : Session} {j : Job} {o : Half}

theorem exec_feed_of_good (q : List Instr) (h : d.Hears st) {size colour : Byte} {z : SizeClass} {m : ColourMode}
    (state : (d.ctx st).state ∈ [StationState.running, .held, .closing]) (session : (d.ctx st).session = some s)
    (job : (d.ctx st).job = some j) (absent : ∀ e ∈ d.path st, e.ordinal ≠ o) (room : (d.path st).length < 8)
    (sized : (size = 0xFF#8 ∧ z = j.size) ∨ (size ≠ 0xFF#8 ∧ size.toNat = z.val))
    (coloured : (colour = 0xFF#8 ∧ m = j.colour) ∨ (colour ≠ 0xFF#8 ∧ colour.toNat = m.number)) :
    exec (.feed st o size colour) ⟨d, q⟩ = .next
      ⟨(((d.heard st).sheetFed st s ((d.heard st).newEntry st s j o z m)).fundsTrigger st).transmit st, q⟩ := by
  have heard : d.awake st = d.heard st :=
    d.awake_eq_heard st (by rintro e; simp [e] at state) (by rintro e; simp [e] at state)
  rw [exec_feed q h (by rintro e; simp [e] at state), heard, (d.heard st).takeFeed_of_job state session job,
    (d.heard st).feedSheet_of_good s absent room (feedSize_of_good sized) (feedColour_of_good coloured)]

end

/-- R39 to R41: the entry of a FEED, and what the search for funds leaves of it. -/
theorem feed_makes_entry {d : Device} (q : List Instr) {st : Station} {ordinal : Half} {size colour : Byte} {s : Session}
    {j : Job} {z : SizeClass} {m : ColourMode} (h : d.Hears st)
    (state : (d.ctx st).state ∈ [StationState.running, .held, .closing]) (session : (d.ctx st).session = some s)
    (job : (d.ctx st).job = some j) (absent : ∀ e ∈ d.path st, e.ordinal ≠ ordinal) (room : (d.path st).length < 8)
    (sized : (size = 0xFF#8 ∧ z = j.size) ∨ (size ≠ 0xFF#8 ∧ size.toNat = z.val))
    (coloured : (colour = 0xFF#8 ∧ m = j.colour) ∨ (colour ≠ 0xFF#8 ∧ colour.toNat = m.number)) :
    let e := (d.heard st).newEntry st s j ordinal z m
    ∃ t : Device, exec (.feed st ordinal size colour) ⟨d, q⟩ = .next ⟨t.transmit st, q⟩ ∧ t.path st = d.path st ++ [e] ∧
      (∃ k, (t.ctx st).job = some k ∧ k.fed = j.fed + 1 ∧ k.allowance ≤ j.allowance - j.sides ∧
        k = { j with fed := k.fed, allowance := k.allowance, fundsRequest := k.fundsRequest, fundsEnded := k.fundsEnded }) ∧
      t.ctx st = { d.ctx st with
        state := (t.ctx st).state, job := (t.ctx st).job, refillAsked := (t.ctx st).refillAsked
        dozeTimer := (t.ctx st).dozeTimer, idleTimer := (t.ctx st).idleTimer, waitTimer := none
        jamTimer := (t.ctx st).jamTimer
        faults := { (d.ctx st).faults with pathFull := (d.ctx st).faults.pathFull || (d.path st).length == 7 } } ∧
      (∀ n, s.funding = .account n → d.PaymentsSame t) ∧
      (∀ ref, s.funding = .card ref →
        (t.slot ref.slot).provisional = (d.slot ref.slot).provisional + e.provisional ∧ d.OtherSlotsSame t ref.slot) ∧
      d.OthersSame t st ∧ d.MeteringOnly t := by
  intro e
  let y := d.heard st
  have taken := exec_feed_of_good q h state session job absent room sized coloured
  have fed : y.SheetFed (y.sheetFed st s e) st s j e := Device.sheetFed_fed s e job
  change exec _ _ = .next ⟨((y.sheetFed st s e).fundsTrigger st).transmit st, q⟩ at taken
  generalize y.sheetFed st s e = x at taken fed
  obtain ⟨a, less, ctx⟩ := fed.ctx
  have sought := Device.fundsTrigger_sought (d := x) (st := st) (s := s) (by rw [ctx]; exact session) (by rw [ctx])
  generalize x.fundsTrigger st = t at taken sought
  have path : x.path st = d.path st ++ [e] := fed.path
  have waits : (t.ctx st).waitTimer = none := sought.waitTimer (by rw [ctx]) (by simp [path])
  have metering : d.MeteringOnly t := ((Device.MeteringOnly.of_eq rfl).trans fed.rest).trans sought.rest
  refine ⟨t, taken, sought.path.trans path, ?_, ?_, fun n account => ?_, fun ref card => ?_, ?_, metering⟩
  · obtain ⟨k, isK, lessK, rest⟩ := sought.job
    exact ⟨k, isK, by rw [rest], lessK.trans less, by rw [rest]⟩
  · have after := sought.ctx
    rw [waits, ctx] at after
    exact after
  · obtain ⟨slots, queue⟩ := sought.account n account
    exact metering.paymentsSame (slots.trans (fed.account n account)) (queue.trans fed.payQueue)
  · obtain ⟨slot, others⟩ := fed.card ref card
    obtain ⟨kept, others'⟩ := sought.card ref card
    exact ⟨kept.trans (congrArg Slot.provisional slot), fun i hi => (others' i hi).trans (others i hi)⟩
  · exact ((Device.OthersSame.heard d st).trans fed.others).trans sought.others

/-- R30, R40: an entry that does not fill the list lowers the allowance, and the station is told nothing. -/
theorem Device.sheetFed_of_room {d : Device} {st : Station} {j : Job} (s : Session) (e : PathEntry)
    (job : (d.ctx st).job = some j) (room : (d.path st).length < 7) :
    (d.sheetFed st s e).ctx st = { d.ctx st with job := some j.feed, waitTimer := none } ∧
      (d.sheetFed st s e).port st = d.port st := by
  have joined := d.joinEntry_joined st s e
  have few : (((d.joinEntry st s e).modJob st Job.feed).path st).length ≠ 8 := by
    rw [Device.modJob_path, joined.path]
    simp
    omega
  rw [Device.sheetFed, Device.pathFilled_of_room few]
  refine ⟨?_, joined.port st⟩
  rw [Device.ctx_modCtx, Device.ctx_modJob, joined.ctx, job]
  rfl

/-- R41: the job waits for what it has asked: HELD and told so. -/
theorem Device.enterHeld_held {d : Device} {st : Station} {k : Job} (job : (d.ctx st).job = some k) :
    ((d.enterHeld st).ctx st).state = .held ∧ ((d.enterHeld st).ctx st).job = some { k with allowance := 0 } ∧
      (∀ i, (d.enterHeld st).slot i = d.slot i) ∧ (d.enterHeld st).payQueue = d.payQueue ∧
      (d.enterHeld st).port st = (d.port st).queued (.pause .funds) := by
  rw [Device.enterHeld_eq]
  refine ⟨?_, ?_, fun i => Device.send_slot _ st _ i, Device.send_payQueue _ st _, Device.port_send _ st _⟩
  · rw [Device.send_ctx, Device.ctx_modCtx]
  · rw [Device.send_ctx, Device.ctx_modCtx, job]
    rfl

/-- Settles O24. -/
theorem feedMakesEntryAndSeeksFunds : Obligations.FeedMakesEntryAndSeeksFunds := by
  refine ⟨?_, ?_⟩
  · intro d q st ordinal size colour s j z m h state session job absent room sized coloured price funded owed e
    obtain ⟨t, taken, path, counted, ctx, account, card, others, metering⟩ :=
      feed_makes_entry q h state session job absent room sized coloured
    exact ⟨t, taken, path, counted, ctx, account, card, others, metering.booksSame, metering.setupSame, metering.uplinkSame,
      metering.tariff⟩
  · intro d q st ordinal s j h running session job absent room going fresh price fed
    let y := d.heard st
    let e := y.newEntry st s j ordinal j.size j.colour
    have taken := exec_feed_of_good q h (by simp [running]) session job absent (by omega) (.inl ⟨rfl, rfl⟩) (.inl ⟨rfl, rfl⟩)
    have sheet : y.SheetFed (y.sheetFed st s e) st s j e := Device.sheetFed_fed s e job
    obtain ⟨ctx, port⟩ := Device.sheetFed_of_room (d := y) s e job room
    change exec _ _ = .next ⟨((y.sheetFed st s e).fundsTrigger st).transmit st, q⟩ at taken
    generalize y.sheetFed st s e = x at taken sheet ctx port
    have xCtx : x.ctx st = { d.ctx st with job := some fed, waitTimer := none } := ctx
    have xRunning : (x.ctx st).state = .running := by rw [xCtx]; exact running
    have xSession : (x.ctx st).session = some s := by rw [xCtx]; exact session
    have xJob : (x.ctx st).job = some fed := by rw [xCtx]
    have asks : x.oneSheetPrice s.bank fed = price := by
      rw [Device.oneSheetPrice, Device.sidePrice, sheet.rest.tariff]
      rfl
    have headroom : x.headroom st = d.headroom st - (if price ≤ d.headroom st then price else 0) := by
      refine (sheet.headroom session job).trans (congrArg (d.headroom st - ·) ?_)
      change (if decide (price ≤ d.headroom st) = true then price else 0) = _
      simp
    have covered : x.covered st = decide (2 * price ≤ d.headroom st) := by
      rw [Device.covered, Device.jobPrice_eq xSession xJob, asks, headroom]
      refine decide_eq_decide.mpr ?_
      split_ifs <;> omega
    refine ⟨_, taken, fun enough => ?_, fun n account short => ?_, fun ref card short active allowed below => ?_,
      fun ref card short active refused => ?_⟩
    · rw [Device.fundsTrigger_of_content xJob (.inr (.inr (by simpa [covered] using enough)))]
      exact ⟨xRunning, xJob, by rw [xCtx], port⟩
    all_goals have uncovered : x.covered st = false := by simpa [covered] using short
    · rw [Device.fundsTrigger_of_account xSession xJob xRunning account going fresh uncovered, asks]
      have after := (x.modJob st fun k => { k with fundsRequest := .refill }).ctx_modCtx st fun c =>
        { c with refillAsked := some { number := n, oneSheetPrice := price } }
      rw [Device.ctx_modJob, xCtx] at after
      refine ⟨by rw [after]; exact running, by rw [after]; rfl, by rw [after], port⟩
    all_goals
      rw [Device.fundsTrigger_of_card xSession xJob xRunning card going fresh uncovered]
      obtain ⟨slot, -⟩ := sheet.card ref card
      have xActive : (x.slot ref.slot).state = .active := by rw [slot]; exact active
      have told : ((d.heard st).send st (.pause .funds)).port st = (x.port st).queued (.pause .funds) := by
        rw [Device.port_send, port]
    · have accepted := Device.fundsRenewal_of_active xActive (by rw [slot]; exact allowed) (by rw [slot]; exact below)
      rw [Device.askRenewal_of_accepted accepted, told]
      obtain ⟨state, job', slots, queue, port'⟩ := Device.enterHeld_held
        (Device.job_modJob (d := x.renewalQueued ref.slot) (fun j => { j with fundsRequest := .renew }) xJob)
      have asked := x.slot_modSlot ref.slot fun s => { s with
        state := .renewing, request := some { kind := .renew, place := .queued, funds := true, amount := 0 } }
      refine ⟨state, job', ?_, ?_, queue.trans ?_, port'⟩
      · exact (congrArg Slot.state ((slots ref.slot).trans asked))
      · exact (congrArg Slot.request ((slots ref.slot).trans asked))
      · change x.payQueue ++ [{ ref := x.slotRef ref.slot, kind := .renew }] = _
        rw [sheet.payQueue, Device.slotRef, slot]
        rfl
    · have rejected := Device.fundsRenewal_of_refused xActive (by rw [slot]; exact refused)
      rw [Device.askRenewal_of_rejected rejected, told]
      obtain ⟨state, job', -, queue, port'⟩ := Device.enterHeld_held
        (Device.job_modJob (d := x) (fun j => { j with fundsEnded := true }) xJob)
      exact ⟨state, job', queue.trans sheet.payQueue, port'⟩

end Sys2Proof.Machine
end

section
/-! PROOF. The end of a jam (O29): the items of a CLEAR, the entries it takes off the path, and where the station goes (R65 to R69). -/

namespace Sys2Proof.Machine

/-! ### The items of a CLEAR -/

theorem readOutcome_isSome (b : Byte) : (readOutcome b).isSome = (b == 1#8 || b == 2#8 || b == 3#8) := by
  unfold readOutcome
  split_ifs <;> simp_all

theorem readOutcome_eq_refeed {b : Byte} : readOutcome b = some .refeed ↔ b = 3#8 := by
  unfold readOutcome
  split_ifs <;> simp_all

/-- The first item for an ordinal that has an outcome's code. -/
def itemFor (items : List (Half × Byte)) (o : Half) : Option (Half × Byte) :=
  items.find? fun i => i.1 == o && (i.2 == 1#8 || i.2 == 2#8 || i.2 == 3#8)

section
variable (items : List (Half × Byte)) (o : Half)

theorem itemFor_cons_of_stands {p : Half} {code : Byte} {out : Outcome3} (reads : readOutcome code = some out) :
    (itemFor ((p, code) :: items) o).bind (readOutcome ·.2) =
      if p = o then some out else (itemFor items o).bind (readOutcome ·.2) := by
  have good : (code == 1#8 || code == 2#8 || code == 3#8) = true := by rw [← readOutcome_isSome, reads]; rfl
  by_cases same : p = o
  · simp [itemFor, same, good, reads]
  · have other : (p == o) = false := beq_false_of_ne same
    simp [itemFor, same, other]

theorem itemFor_cons_of_bad {p : Half} {code : Byte} (reads : readOutcome code = none) :
    itemFor ((p, code) :: items) o = itemFor items o := by
  have bad : (code == 1#8 || code == 2#8 || code == 3#8) = false := by rw [← readOutcome_isSome, reads]; rfl
  simp [itemFor, bad]

theorem outcomeOf_append (stand : List (Half × Outcome3)) (p : Half) (out : Outcome3) :
    outcomeOf (stand ++ [(p, out)]) o = (outcomeOf stand o).or (if p = o then some out else none) := by
  cases first : stand.find? fun x => x.1 == o with
  | none => by_cases same : p = o <;> simp [outcomeOf, List.find?_append, first, same]
  | some x => simp [outcomeOf, List.find?_append, first]

theorem outcomeOf_isSome (stand : List (Half × Outcome3)) : (outcomeOf stand o).isSome = stand.any fun p => p.1 == o := by
  rw [outcomeOf, Option.isSome_map, Bool.eq_iff_iff, List.find?_isSome, List.any_eq_true]

end

/-- R65: of the items for an entry's ordinal that have an outcome's code, the first stands. -/
theorem outcomeOf_clearItems {path : List PathEntry} {o : Half} (carried : carries path o = true) (items : List (Half × Byte))
    (stand : List (Half × Outcome3)) : outcomeOf (clearItems path stand items).1 o =
      (outcomeOf stand o).or ((itemFor items o).bind (readOutcome ·.2)) := by
  induction items generalizing stand with
  | nil => simp [clearItems, itemFor]
  | cons item rest ih =>
    obtain ⟨p, code⟩ := item
    cases reads : readOutcome code with
    | none =>
      rw [itemFor_cons_of_bad rest o reads, ← ih stand]
      simp only [clearItems, reads]
    | some out =>
      rw [itemFor_cons_of_stands rest o reads]
      by_cases stands : (carries path p && !(stand.any fun x => x.1 == p)) = true
      · have step : clearItems path stand ((p, code) :: rest) = clearItems path (stand ++ [(p, out)]) rest := by
          simp only [clearItems, reads, stands, if_true]
        rw [step, ih, outcomeOf_append]
        by_cases same : p = o <;> simp [same]
      · have step : (clearItems path stand ((p, code) :: rest)).1 = (clearItems path stand rest).1 := by
          simp only [clearItems, reads, stands]
          rfl
        rw [step, ih]
        by_cases same : p = o
        · subst same
          have already : (outcomeOf stand p).isSome = true := by
            rw [outcomeOf_isSome]
            simpa [carried] using stands
          obtain ⟨out', given⟩ := Option.isSome_iff_exists.mp already
          simp [given]
        · simp [same]

/-- R65: the entries that a CLEAR gives REFEED. -/
theorem refeed_iff {path : List PathEntry} {e : PathEntry} (onPath : e ∈ path) (items : List (Half × Byte)) :
    outcomeOf (clearItems path [] items).1 e.ordinal = some .refeed ↔
      ((itemFor items e.ordinal).any fun i => i.2 == 3#8) = true := by
  have carried : carries path e.ordinal = true := List.any_eq_true.mpr ⟨e, onPath, beq_self_eq_true _⟩
  rw [outcomeOf_clearItems carried items []]
  cases itemFor items e.ordinal with
  | none => simp [outcomeOf]
  | some i => simp [outcomeOf, readOutcome_eq_refeed]

/-! ### The entries that a CLEAR takes off the path -/

/-- What outcomes leave alone of a station's records and of the other stations. -/
structure Device.SheetsTaken (d t : Device) (st : Station) : Prop where
  session : (d.ctx st).session.isSome = true → (t.ctx st).session.isSome = true
  job : (d.ctx st).job.isSome = true → (t.ctx st).job.isSome = true
  jams : (t.ctx st).meters.jams = (d.ctx st).meters.jams
  others : d.OthersSame t st

namespace Device.SheetsTaken

variable {d t u : Device} {st : Station} {s : Session}

theorem refl (d : Device) (st : Station) : d.SheetsTaken d st := ⟨id, id, rfl, .refl d st⟩

theorem trans (h : d.SheetsTaken t st) (k : t.SheetsTaken u st) : d.SheetsTaken u st :=
  ⟨k.session ∘ h.session, k.job ∘ h.job, k.jams.trans h.jams, h.others.trans k.others⟩

theorem protocolFaultIf (d : Device) (bad : Bool) (st : Station) : d.SheetsTaken (d.protocolFaultIf bad st) st := by
  cases bad with
  | false => exact refl d st
  | true =>
    have ctx : (d.protocolFault st).ctx st = { d.ctx st with faults := { (d.ctx st).faults with protocol := true } } :=
      d.ctx_modFaults st fun f => { f with protocol := true }
    refine ⟨?_, ?_, ?_, (Device.OthersSame.modCtx d st _).trans (.notice _ st _ _)⟩ <;>
      simp only [Device.protocolFaultIf, if_true, ctx, imp_self]

theorem setPath (d : Device) (st : Station) (p : List PathEntry) : d.SheetsTaken (d.setPath st p) st :=
  ⟨id, id, rfl, .setPath d st p⟩

/-- R67: an entry resolved. -/
theorem resolveEntry (session : (d.ctx st).session = some s) (p : JamPolicy) (e : PathEntry) :
    d.SheetsTaken (d.resolveEntry st p e) st := by
  have done := Device.resolveEntry_resolved p e session
  have meters := (Meters.foldl_resolve p [e] (d.ctx st).meters).2
  refine ⟨fun _ => by rw [done.ctx]; rfl, fun job => by rw [done.ctx]; simpa using job, ?_, .resolveEntry d st p e⟩
  rw [done.ctx, meters]

/-- R66: a spoiled sheet. -/
theorem outcomeSpoiled (d : Device) (st : Station) (e : PathEntry) : d.SheetsTaken (d.outcomeSpoiled st e) st := by
  have same : ((d.dropEntry st e.ordinal).returnCharge st e).ctx st = d.ctx st := by
    unfold Device.returnCharge
    split <;> rfl
  have ctx : (d.outcomeSpoiled st e).ctx st = { d.ctx st with
      job := (d.ctx st).job.map fun j => { j with spoiled := j.spoiled + 1 }
      session := (d.ctx st).session.map fun s => { s with spoiled := s.spoiled + 1 }
      meters := { (d.ctx st).meters with spoiledSheets := (d.ctx st).meters.spoiledSheets + 1 } } := by
    simp [Device.outcomeSpoiled, Device.modMeters, Device.modSession, Device.modJob, same]
  refine ⟨fun session => by rw [ctx]; simpa using session, fun job => by rw [ctx]; simpa using job, by rw [ctx], ?_⟩
  exact ((((Device.OthersSame.setPath d st _).trans (.returnCharge _ st e)).trans (.modCtx _ st _)).trans (.modCtx _ st _)).trans
    (.modCtx _ st _)

/-- R66, R67: the outcome of one entry. -/
theorem clearEntry (session : (d.ctx st).session = some s) (stand : List (Half × Outcome3)) (e : PathEntry) :
    d.SheetsTaken (d.clearEntry st stand e) st := by
  unfold Device.clearEntry
  split
  · exact resolveEntry session .charge e
  · exact outcomeSpoiled d st e
  · exact refl d st
  · exact resolveEntry session _ e

/-- R66, R67: the outcomes of a list of entries. -/
theorem clearAll (session : (d.ctx st).session = some s) (stand : List (Half × Outcome3)) (l : List PathEntry) :
    d.SheetsTaken (l.foldl (fun x e => x.clearEntry st stand e) d) st := by
  induction l generalizing d s with
  | nil => exact refl d st
  | cons e rest ih =>
    have first := clearEntry session stand e
    obtain ⟨k, session'⟩ := Option.isSome_iff_exists.mp (first.session (by rw [session]; rfl))
    exact first.trans (ih session')

end Device.SheetsTaken

section
variable {d : Device} {st : Station} {stand : List (Half × Outcome3)} {e : PathEntry}

/-- R66: an entry given REFEED stays. -/
theorem Device.clearEntry_of_refeed (given : outcomeOf stand e.ordinal = some .refeed) : d.clearEntry st stand e = d := by
  rw [Device.clearEntry, given]

/-- R66, R67: every other entry leaves its path list. -/
theorem Device.path_clearEntry (given : outcomeOf stand e.ordinal ≠ some .refeed) :
    (d.clearEntry st stand e).path st = (d.path st).eraseP fun x => x.ordinal == e.ordinal := by
  unfold Device.clearEntry
  split
  · exact Device.path_resolveEntry d st .charge e
  · exact (congrArg (·[st]) (Device.returnCharge_lines _ st e).1).trans (d.path_setPath st _)
  · rename_i refeed; exact absurd refeed given
  · exact Device.path_resolveEntry d st _ e

/-- R66, R67: the entries that stay, in their order. -/
theorem Device.path_clearAll (l : List PathEntry) (front : List PathEntry) (path : d.path st = front ++ l)
    (apart : ((front ++ l).map (·.ordinal)).Nodup) : (l.foldl (fun x e => x.clearEntry st stand e) d).path st =
      front ++ l.filter fun e => outcomeOf stand e.ordinal = some .refeed := by
  induction l generalizing d front with
  | nil => simpa using path
  | cons e rest ih =>
    by_cases given : outcomeOf stand e.ordinal = some .refeed
    · rw [List.foldl_cons, Device.clearEntry_of_refeed given, ih (front ++ [e]) (by simpa using path) (by simpa using apart)]
      simp [given]
    · have first : ∀ x ∈ front, ¬ (x.ordinal == e.ordinal) = true := by
        intro x hx same
        rw [List.map_append, List.nodup_append] at apart
        obtain ⟨-, -, distinct⟩ := apart
        exact distinct _ (List.mem_map_of_mem hx) _ (List.mem_map_of_mem List.mem_cons_self) (by simpa using same)
      have erased : (d.clearEntry st stand e).path st = front ++ rest := by
        rw [Device.path_clearEntry given, path, List.eraseP_append_right _ first, List.eraseP_cons_of_pos (by simp)]
      rw [List.foldl_cons, ih front erased (apart.sublist (by simp))]
      simp [given]

end

/-! ### The way out of JAMMED (R69) -/

/-- Where a station has gone from JAMMED, and what that leaves alone. -/
structure Device.JamLeft (d t : Device) (st : Station) : Prop where
  path : t.path st = d.path st
  state : (t.ctx st).state ∈ [StationState.idle, .opened, .running, .held, .closing]
  jamTimer : (t.ctx st).jamTimer = none
  jams : (t.ctx st).meters.jams = (d.ctx st).meters.jams
  others : d.OthersSameButMail t st

theorem Device.ctx_placeReport (d : Device) (st : Station) (r : EndReason) : (d.placeReport st r).ctx st = d.ctx st := by
  unfold Device.placeReport
  split <;> rfl

theorem Device.path_placeReport (d : Device) (st : Station) (r : EndReason) : (d.placeReport st r).path st = d.path st := by
  unfold Device.placeReport
  split <;> rfl

namespace Device.JamLeft

variable {d x t : Device} {st : Station}

theorem of_before (path : x.path st = d.path st) (jams : (x.ctx st).meters.jams = (d.ctx st).meters.jams)
    (others : d.OthersSameButMail x st) (h : x.JamLeft t st) : d.JamLeft t st :=
  ⟨h.path.trans path, h.state, h.jamTimer, h.jams.trans jams, others.trans h.others⟩

theorem closeOut (d : Device) (st : Station) (r : EndReason) : d.JamLeft (d.closeOut st r) st where
  path := by
    refine Eq.trans ?_ (d.path_placeReport st r)
    exact congrArg (·[st]) ((d.placeReport st r).paths_closeSession st r)
  state := by rw [Device.closeOut, Device.ctx_enterIdle]; simp
  jamTimer := by rw [Device.closeOut, Device.ctx_enterIdle]
  jams := by rw [Device.closeOut, Device.ctx_enterIdle, Device.ctx_closeSession, Device.ctx_placeReport]
  others := .closeOut d st r

theorem endSession (d : Device) (st : Station) (r : EndReason) : d.JamLeft (d.endSession st r) st := by
  by_cases room : d.HasRoom st
  · rw [Device.endSession_of_room room]
    exact closeOut d st r
  · have ctx : (d.endSession st r).ctx st = { d.ctx st with
        state := .closing, endPending := some r, dozeTimer := none, idleTimer := none, waitTimer := none, jamTimer := none } := by
      rw [Device.endSession_of_full room]
      simp [Device.enter]
    refine ⟨?_, by rw [ctx]; simp, by rw [ctx], by rw [ctx], ?_⟩ <;> rw [Device.endSession_of_full room]
    · rfl
    · exact .of_othersSame ((Device.OthersSame.modCtx d st _).trans (.modCtx _ st _))

theorem enterOpen (d : Device) (st : Station) : d.JamLeft (d.enterOpen st) st where
  path := (Device.LinesOnly.enterOpen d st).path st
  state := by rw [Device.ctx_enterOpen]; simp
  jamTimer := by rw [Device.ctx_enterOpen]
  jams := by rw [Device.ctx_enterOpen]
  others := .of_othersSame (.enterOpen d st)

theorem afterJob (d : Device) (st : Station) (r : JobEndReason) (last : Bool) : d.JamLeft (d.afterJob st r last) st := by
  unfold Device.afterJob
  split
  · exact endSession d st _
  · split
    · exact endSession d st _
    · split
      · exact endSession d st _
      · exact enterOpen d st

/-- R69: the job is over. -/
theorem finishJob {j : Job} (job : (d.ctx st).job = some j) (r : JobEndReason) : d.JamLeft (d.finishJob st r) st := by
  have ended := Device.endJob_ended job r true
  rw [Device.finishJob_of_job job]
  refine of_before (ended.rest.path st) ?_ ended.others (afterJob _ st r j.lastJob)
  rw [ended.ctx]
  rfl

theorem enterHeld (d : Device) (st : Station) : d.JamLeft (d.enterHeld st) st := by
  rw [Device.enterHeld_eq]
  refine ⟨Device.send_path _ st _ st, ?_, ?_, ?_, .of_othersSame ((Device.OthersSame.modCtx d st _).trans (.send _ st _))⟩ <;>
    rw [Device.send_ctx, Device.ctx_modCtx]
  simp

section
variable (state : (d.ctx st).state ∈ [StationState.idle, .opened, .running, .held, .closing])
  (jamTimer : (d.ctx st).jamTimer = none)
include state jamTimer

theorem refl : d.JamLeft d st := ⟨rfl, state, jamTimer, rfl, .refl d st⟩

/-- R30, R31: a frame with the job's allowance. -/
theorem told (note : Job → Job) (f : StationFrame) : d.JamLeft ((d.modJob st note).send st f) st := by
  refine ⟨Device.send_path _ st f st, ?_, ?_, ?_, .of_othersSame ((Device.OthersSame.modCtx d st _).trans (.send _ st f))⟩ <;>
    rw [Device.send_ctx, Device.ctx_modJob]
  · exact state
  · exact jamTimer

/-- R30: what the engine is sent on the entry to RUNNING. -/
theorem announceRunning : d.JamLeft (d.announceRunning st) st := by
  unfold Device.announceRunning
  split
  · split_ifs
    · exact refl state jamTimer
    · exact told state jamTimer _ _
    · unfold Device.sendGo
      split
      · split_ifs
        · exact refl state jamTimer
        · exact told state jamTimer _ _
      · exact refl state jamTimer
  · exact refl state jamTimer

/-- R41: the job seeks funds. -/
theorem fundsTrigger {s : Session} {j : Job} (session : (d.ctx st).session = some s) (job : (d.ctx st).job = some j) :
    d.JamLeft (d.fundsTrigger st) st := by
  have sought := Device.fundsTrigger_sought session job
  refine ⟨sought.path, ?_, sought.jamTimer jamTimer, by rw [sought.ctx], .of_othersSame sought.others⟩
  rcases sought.state with same | held
  · rw [same]; exact state
  · rw [held]; simp

end

/-- R69: the station's way out of JAMMED. -/
theorem leaveJam {s : Session} {j : Job} (session : (d.ctx st).session = some s) (job : (d.ctx st).job = some j)
    (resume : Resume) : d.JamLeft (d.leaveJam st resume) st := by
  have entered : ∀ state, (d.enter st state).ctx st = { d.ctx st with
      state := state, dozeTimer := none, idleTimer := none, waitTimer := none, jamTimer := none } := fun state => by
    simp [Device.enter]
  have after : ∀ {t : Device} state, (d.enter st state).JamLeft t st → d.JamLeft t st := fun state h =>
    of_before (x := d.enter st state) rfl (by rw [entered]) (.of_othersSame (.modCtx d st _)) h
  simp only [Device.leaveJam, job]
  by_cases complete : d.complete st = true
  · rw [if_pos complete]
    exact finishJob job _
  rw [if_neg complete]
  by_cases stopped : (d.pathEmpty st && j.stopPending) = true
  · rw [if_pos stopped]
    exact finishJob job _
  rw [if_neg stopped]
  cases resume with
  | running =>
    simp only
    split_ifs
    · exact finishJob job _
    · refine after .running (fundsTrigger ?_ ?_ (s := s) (j := j) ?_ ?_) <;> rw [entered]
      · simp
      · exact session
      · exact job
    · refine after .running (announceRunning ?_ ?_) <;> rw [entered]
      simp
  | held =>
    simp only
    split_ifs
    · exact finishJob job _
    · exact enterHeld d st
  | closing =>
    simp only
    split_ifs
    · exact after .closing (finishJob (j := j) (by rw [entered]; exact job) _)
    · refine after .closing (told ?_ ?_ _ _) <;> rw [entered]
      simp

end Device.JamLeft

/-! ### The obligation -/

section
variable {d : Device} {st : Station}

@[simp] theorem Device.path_protocolFaultIf (bad : Bool) : (d.protocolFaultIf bad st).path st = d.path st := by
  cases bad <;> rfl

theorem Device.takeClear_of_jammed {resume : Resume} (jammed : (d.ctx st).state = .jammed resume) (items : List (Half × Byte)) :
    d.takeClear st items = (((d.path st).foldl (fun x e => x.clearEntry st (clearItems (d.path st) [] items).1 e)
      (d.protocolFaultIf (clearItems (d.path st) [] items).2 st)).unmark st).leaveJam st resume := by
  simp only [Device.takeClear, jammed, Device.path_protocolFaultIf]

end

/-- R65 to R69: the path list after a CLEAR, and the station out of JAMMED. -/
theorem Device.takeClear_left {d : Device} {st : Station} {s : Session} {j : Job} {resume : Resume}
    (session : (d.ctx st).session = some s) (job : (d.ctx st).job = some j) (jammed : (d.ctx st).state = .jammed resume)
    (apart : ((d.path st).map (·.ordinal)).Nodup) (items : List (Half × Byte)) :
    (d.takeClear st items).path st = ((d.path st).filter fun e => (itemFor items e.ordinal).any fun i => i.2 == 3#8).map
      (fun e => { e with mark := none }) ∧
    ((d.takeClear st items).ctx st).state ∈ [StationState.idle, .opened, .running, .held, .closing] ∧
    ((d.takeClear st items).ctx st).jamTimer = none ∧
    ((d.takeClear st items).ctx st).meters.jams = (d.ctx st).meters.jams ∧
    d.OthersSameButMail (d.takeClear st items) st := by
  let stand := (clearItems (d.path st) [] items).1
  let x := d.protocolFaultIf (clearItems (d.path st) [] items).2 st
  let y := (d.path st).foldl (fun x e => x.clearEntry st stand e) x
  have told : d.SheetsTaken x st := .protocolFaultIf d _ st
  obtain ⟨k, session'⟩ := Option.isSome_iff_exists.mp (told.session (by rw [session]; rfl))
  have taken : d.SheetsTaken (y.unmark st) st := (told.trans (.clearAll session' stand (d.path st))).trans (.setPath y st _)
  have path : (y.unmark st).path st =
      ((d.path st).filter fun e => (itemFor items e.ordinal).any fun i => i.2 == 3#8).map (fun e => { e with mark := none }) := by
    have stay : y.path st = (d.path st).filter fun e => outcomeOf stand e.ordinal = some .refeed :=
      Device.path_clearAll (d.path st) [] (Device.path_protocolFaultIf _) apart
    rw [Device.unmark, Device.path_setPath, stay]
    refine congrArg (List.map _) (List.filter_congr fun e onPath => ?_)
    rw [Bool.eq_iff_iff, decide_eq_true_eq]
    exact refeed_iff onPath items
  obtain ⟨left, lSession⟩ := Option.isSome_iff_exists.mp (taken.session (by rw [session]; rfl))
  obtain ⟨leftJob, lJob⟩ := Option.isSome_iff_exists.mp (taken.job (by rw [job]; rfl))
  have leaves := Device.JamLeft.leaveJam lSession lJob resume
  rw [Device.takeClear_of_jammed jammed]
  exact ⟨leaves.path.trans path, leaves.state, leaves.jamTimer, leaves.jams.trans taken.jams,
    (Device.OthersSameButMail.of_othersSame taken.others).trans leaves.others⟩

/-! ### An empty CLEAR under FORGIVE -/

section
variable (l : List PathEntry)

theorem Session.foldl_forgive (s : Session) :
    l.foldl (Session.resolve .forgive) s = { s with forgiven := s.forgiven + BitVec.ofNat 32 l.length } := by
  have rest := foldl_with (Session.resolve .forgive) (fun s k => { s with forgiven := k.forgiven }) (fun _ => rfl)
    (fun _ _ _ => rfl) l s
  have forgiven := foldl_count (·.forgiven) (Session.resolve .forgive) (fun _ => 1) (fun _ _ => rfl) l s
  simp only [List.map_const', List.sum_replicate, smul_eq_mul, mul_one] at forgiven
  rwa [forgiven] at rest

theorem Job.foldl_forgive (account : Bool) (j : Job) :
    l.foldl (Job.resolve account .forgive) j = { j with forgiven := j.forgiven + BitVec.ofNat 32 l.length } := by
  have rest := foldl_with (Job.resolve account .forgive) (fun j k => { j with forgiven := k.forgiven }) (fun _ => rfl)
    (fun _ _ _ => rfl) l j
  have forgiven := foldl_count (·.forgiven) (Job.resolve account .forgive) (fun _ => 1) (fun _ _ => rfl) l j
  simp only [List.map_const', List.sum_replicate, smul_eq_mul, mul_one] at forgiven
  rwa [forgiven] at rest

theorem Slot.foldl_forgive (s : Slot) : l.foldl (Slot.resolve .forgive) s =
    { s with provisional := s.provisional - (l.map (·.provisional)).sum } := by
  have rest := foldl_with (Slot.resolve .forgive) (fun s k => { s with provisional := k.provisional }) (fun _ => rfl)
    (fun _ _ _ => rfl) l s
  rwa [foldl_sub Slot.provisional (Slot.resolve .forgive) (·.provisional) (fun _ _ => rfl) l s] at rest

end

/-- The part `x` is `d` with a card session's whole path list forgiven (R54, R67). -/
structure Device.Forgiven (d x : Device) (st : Station) (s : Session) (j : Job) (ref : SlotRef) : Prop where
  ctx : x.ctx st = { d.ctx st with
    job := some { j with forgiven := j.forgiven + BitVec.ofNat 32 (d.path st).length }
    session := some { s with forgiven := s.forgiven + BitVec.ofNat 32 (d.path st).length } }
  path : x.path st = []
  slot : x.slot ref.slot = { d.slot ref.slot with
    provisional := (d.slot ref.slot).provisional - ((d.path st).map (·.provisional)).sum }
  otherSlots : d.OtherSlotsSame x ref.slot
  rest : d.MeteringOnly x
  payQueue : x.payQueue = d.payQueue
  port : x.port st = d.port st
  others : d.OthersSame x st

section
variable {d : Device} {st : Station} {s : Session} {j : Job} {ref : SlotRef}

theorem Device.resolveAll_forgiven (session : (d.ctx st).session = some s) (card : s.funding = .card ref)
    (job : (d.ctx st).job = some j) (policy : d.configs[st].jamPolicy = .forgive) :
    d.Forgiven (d.resolveAll st) st s j ref := by
  have done := Device.resolveAll_resolved session
  rw [policy] at done
  obtain ⟨accounts, slot, others⟩ := done.card ref card
  obtain ⟨asked, mail⟩ := done.mail (.inl (by rw [card]; rfl))
  have ctx := done.ctx
  have faults : (d.path st).foldl (Faults.resolve .forgive) (d.ctx st).faults = (d.ctx st).faults := List.foldl_fixed _
  have meters : (d.path st).foldl (Meters.resolve .forgive) (d.ctx st).meters = (d.ctx st).meters := List.foldl_fixed _
  rw [asked, mail, job, Option.map_some, Session.foldl_forgive, Job.foldl_forgive, faults, meters] at ctx
  have rest := done.rest
  rw [accounts] at rest
  exact ⟨ctx, d.path_resolveAll st, slot.trans (Slot.foldl_forgive _ _), others, .of_eq rest, done.payQueue, done.port st,
    .resolveAll d st⟩

/-- R67: without items every entry is resolved by the jam policy. -/
theorem Device.foldl_clearEntry_nil (d : Device) (st : Station) :
    (d.path st).foldl (fun x e => x.clearEntry st [] e) d = d.resolveAll st := by
  unfold Device.resolveAll
  have all : ∀ (l : List PathEntry) (x : Device), x.configs = d.configs → l.foldl (fun x e => x.clearEntry st [] e) x =
      l.foldl (fun x e => x.resolveEntry st d.configs[st].jamPolicy e) x := by
    intro l
    induction l with
    | nil => exact fun _ _ => rfl
    | cons e rest ih =>
      intro x same
      have first : x.clearEntry st [] e = x.resolveEntry st d.configs[st].jamPolicy e := by rw [← same]; rfl
      rw [List.foldl_cons, List.foldl_cons, first]
      exact ih _ ((Device.Steady.resolveEntry x st _ e).configs.trans same)
  exact all _ d rfl

/-- R69: with sheets owed, no stop and the headroom for one sheet the station is RUNNING again. -/
theorem Device.leaveJam_of_covered (session : (d.ctx st).session = some s) (job : (d.ctx st).job = some j)
    (owed : j.outer ≠ 0) (going : j.stopPending = false) (funds : j.fundsEnded = false)
    (covered : d.oneSheetPrice s.bank j ≤ d.headroomOf j (d.path st) s.funding) :
    d.leaveJam st .running = d.enterRunning st := by
  have incomplete : d.complete st = false := by simp [Device.complete, job, owed]
  have enough : (d.enter st .running).covered st = true := by
    rw [Device.covered_eq (s := s) (j := j) (by simpa using session) (by simpa using job)]
    exact decide_eq_true covered
  simp only [Device.leaveJam, job, incomplete, going, funds, enough, Bool.and_false, Bool.not_true, Bool.false_eq_true, if_false]
  rfl

end

/-- Settles O29. -/
theorem clearEndsTheJam : Obligations.ClearEndsTheJam := by
  refine ⟨?_, ?_⟩
  · intro d q st s j items h few session job state apart
    obtain ⟨resume, jammed⟩ : ∃ resume, (d.ctx st).state = .jammed resume := by
      simp only [List.mem_cons, List.not_mem_nil, or_false] at state
      rcases state with state | state | state <;> exact ⟨_, state⟩
    have heard : d.awake st = d.heard st := d.awake_eq_heard st (by simp [jammed]) (by simp [jammed])
    obtain ⟨path, left, jamTimer, jams, others⟩ := Device.takeClear_left (d := d.heard st) session job jammed apart items
    have steady : d.Steady ((d.heard st).takeClear st items) := (Device.Steady.heard d st).trans (.takeClear _ st items)
    refine ⟨_, by rw [exec_clear q h (by simp [jammed]) items few, heard], path, left, jamTimer, jams, fun x hx => ?_,
      steady.setupSame, steady.uplink, steady.exporting⟩
    obtain ⟨-, path', port'⟩ := (Device.OthersSameButMail.of_othersSame (Device.OthersSame.heard d st)).trans others x hx
    exact ⟨path', port'⟩
  · intro d q st s j ref h session card job jammed policy apart owed going funds fresh side provisional headroom allowance n enough
    let y := d.heard st
    have heard : d.awake st = y := d.awake_eq_heard st (by simp [jammed]) (by simp [jammed])
    have done : y.Forgiven (y.resolveAll st) st s j ref := Device.resolveAll_forgiven (d := y) session card job policy
    have taken : y.takeClear st [] = ((y.resolveAll st).unmark st).leaveJam st .running := by
      rw [Device.takeClear_of_jammed (d := y) jammed, ← y.foldl_clearEntry_nil st]
      rfl
    generalize y.resolveAll st = x at done taken
    let u := x.unmark st
    let k := { j with forgiven := j.forgiven + n }
    let left := { s with forgiven := s.forgiven + n }
    have uCtx : u.ctx st = { d.ctx st with job := some k, session := some left } := done.ctx
    have uPath : u.path st = [] := (x.path_setPath st _).trans (by rw [done.path]; rfl)
    have uSession : (u.ctx st).session = some left := by rw [uCtx]
    have uJob : (u.ctx st).job = some k := by rw [uCtx]
    have room : u.headroomOf k (u.path st) left.funding = headroom := by
      have slot : u.slot ref.slot = { d.slot ref.slot with provisional := provisional } := done.slot
      change u.headroomOf k (u.path st) s.funding = _
      rw [card, Device.headroomOf, slot]
      rfl
    have price : u.sidePrice left.bank (priceClass k.size k.colour) = side := by
      have tariff : u.tariff = d.tariff := done.rest.tariff
      rw [Device.sidePrice, tariff]
    have allowed : u.allowance left k (u.path st) = allowance := by
      rw [Device.allowance, room, price]
      rfl
    have covered : u.oneSheetPrice left.bank k ≤ u.headroomOf k (u.path st) left.funding := by
      rw [room, Device.oneSheetPrice, price]
      exact enough
    have runs : y.takeClear st [] = ((u.enter st .running).modJob st fun k => { k with allowance := allowance }).send st
        (.go allowance) := by
      rw [taken, Device.leaveJam_of_covered uSession uJob owed going funds covered,
        Device.enterRunning_of_room uSession uJob going (by rw [uPath]; decide), allowed]
    have metering : d.MeteringOnly (y.takeClear st []) := by
      rw [runs]
      exact (((Device.MeteringOnly.of_eq rfl).trans done.rest).trans (.of_eq rfl)).trans (.send _ st _)
    refine ⟨y.takeClear st [], by rw [exec_clear q h (by simp [jammed]) [] (by simp), heard], ?_, ?_, ?_, fun i hi => ?_, ?_, ?_,
      metering.booksSame, metering.setupSame, metering.uplinkSame, ?_⟩ <;> rw [runs]
    · exact (Device.send_path _ st _ st).trans uPath
    · rw [Device.send_ctx, Device.ctx_modJob]
      have entered : (u.enter st .running).ctx st = { d.ctx st with
          state := .running, job := some k, session := some left, dozeTimer := none, idleTimer := none, waitTimer := none
          jamTimer := none } := by
        rw [Device.enter, Device.ctx_modCtx, uCtx]
      rw [entered]
      rfl
    · exact (Device.send_slot _ st _ _).trans done.slot
    · exact (Device.send_slot _ st _ i).trans (done.otherSlots i hi)
    · rw [Device.port_send, Device.port_send]
      exact congrArg (Port.queued · _) done.port
    · exact ((((Device.OthersSame.heard d st).trans done.others).trans (.setPath x st _)).trans (.modCtx u st _)).trans
        ((Device.OthersSame.modCtx _ st _).trans (.send _ st _))
    · exact (Device.send_payQueue _ st _).trans done.payQueue

end Sys2Proof.Machine
end

section
/-! PROOF. Every step keeps the laws (O58): each command is one operation on the part, and each of these operations keeps the part
safe. Most are compositions of operations that are `Device.Steady`; what is proved afresh here are the operations that are not, as
they change a queue, a pin, the notice unit or the uplink port. -/

namespace Sys2Proof.Machine

/-! ### Changes of the part as a whole -/

/-- A change that leaves ports, path lists and the notice unit alone and makes no queue or table longer. -/
theorem Device.Safe.of_no_longer {d t : Device} (h : d.Safe) (ports : t.ports = d.ports) (paths : t.paths = d.paths)
    (notices : t.notices = d.notices) (serviceUp : t.serviceUp.length ≤ d.serviceUp.length)
    (reports : t.reports.Sublist d.reports) (staleVoids : t.staleVoids.length ≤ d.staleVoids.length)
    (input : t.mgmt.input.length ≤ d.mgmt.input.length) (replies : t.mgmt.replies.length ≤ d.mgmt.replies.length)
    (accounts : t.accounts.length ≤ d.accounts.length) : t.Safe := by
  have port : ∀ st, t.port st = d.port st := fun st => by rw [Device.port, Device.port, ports]
  have path : ∀ st, t.path st = d.path st := fun st => by rw [Device.path, Device.path, paths]
  have room := h.capacity
  refine ⟨fun st => port st ▸ h.lines st, ⟨fun st => port st ▸ room.ports st, fun st => path st ▸ room.paths st,
    serviceUp.trans room.serviceUp, reports.length_le.trans room.reports, fun st => ?_, staleVoids.trans room.staleVoids,
    input.trans room.input, replies.trans room.replies, accounts.trans room.accounts⟩, notices ▸ h.notices⟩
  exact (reports.countP_le).trans (room.reportsOf st)

/-- A change of what no law speaks of. -/
theorem Device.Safe.of_same {d t : Device} (h : d.Safe) (ports : t.ports = d.ports) (paths : t.paths = d.paths)
    (notices : t.notices = d.notices) (serviceUp : t.serviceUp = d.serviceUp) (reports : t.reports = d.reports)
    (staleVoids : t.staleVoids = d.staleVoids) (input : t.mgmt.input = d.mgmt.input)
    (replies : t.mgmt.replies = d.mgmt.replies) (accounts : t.accounts.length = d.accounts.length) : t.Safe :=
  h.of_no_longer ports paths notices (by rw [serviceUp]) (by rw [reports]) (by rw [staleVoids]) (by rw [input]) (by rw [replies])
    accounts.le

/-- An operation on the part that keeps it safe. -/
def KeepsSafe (f : Device → Device) : Prop := ∀ d : Device, d.Safe → (f d).Safe

namespace KeepsSafe

variable {f g : Device → Device}

theorem of_steady (h : ∀ d : Device, d.Steady (f d)) : KeepsSafe f := fun d => (h d).safe

theorem ite {c : Prop} [Decidable c] (hf : KeepsSafe f) (hg : KeepsSafe g) : KeepsSafe fun d => if c then f d else g d := by
  split
  · exact hf
  · exact hg

/-! ### The guards and the presentation -/

theorem running (h : KeepsSafe f) : KeepsSafe fun d => d.running f := fun d s => by
  unfold Device.running
  beta_reduce
  split
  · exact s
  · exact h d s

theorem receiveStation (st : Station) (h : KeepsSafe f) : KeepsSafe fun d => d.receiveStation st f := by
  refine running fun d s => ?_
  split
  · exact (Device.Steady.transmit _ st).safe (h _ ((Device.Steady.heard d st).safe s))
  · exact s

theorem present (st : Station) (w : Option WakeClass) (h : KeepsSafe f) : KeepsSafe fun d => d.present st w f := fun d s => by
  unfold Device.present
  beta_reduce
  split
  case h_1 => exact h _ ((Device.Steady.modCtx d st _).safe s)
  case h_2 => exact h _ ((Device.Steady.modCtx d st _).safe s)
  case h_3 =>
    split
    · exact (Device.Steady.protocolFault d st).safe s
    · split
      · exact h _ (((Device.Steady.send d st _).trans (.enterIdle _ st)).safe s)
      · exact (Device.Steady.notice d _ _).safe s
  case h_4 => exact h d s

theorem stationFrame (st : Station) (w : Option WakeClass) (h : KeepsSafe f) : KeepsSafe fun d => d.stationFrame st w f :=
  receiveStation st (present st w h)

theorem badStationFrame (st : Station) : KeepsSafe fun d => d.badStationFrame st :=
  of_steady fun d => .badStationFrame d st

theorem modUplink (f : Uplink → Uplink) : KeepsSafe fun d => d.modUplink f := fun _ s =>
  s.of_same rfl rfl rfl rfl rfl rfl rfl rfl rfl

theorem receiveUplink (h : KeepsSafe f) : KeepsSafe fun d => d.receiveUplink f := by
  refine running fun d s => ?_
  split
  · exact h _ (modUplink (fun u => { u with receiver := .waiting }) d s)
  · exact s

theorem badUplinkFrame : KeepsSafe Device.badUplinkFrame := receiveUplink (of_steady fun d => .notice d _ _)

end KeepsSafe

/-! ### A station's line -/

/-- R159: a SERVICE joins the SERVICE_UP queue where there is room. -/
theorem KeepsSafe.takeService (st : Station) (payload : List Byte) : KeepsSafe fun d => d.takeService st payload := fun d s => by
  unfold Device.takeService
  beta_reduce
  split
  · exact s
  · split
    · rename_i room
      refine ⟨s.lines, { s.capacity with serviceUp := ?_ }, s.notices⟩
      rw [List.length_append, List.length_singleton]
      exact room
    · exact (Device.Steady.uplinkDropFault d st).safe s

namespace Device.Steady

/-- R153: a port that loses its carrier is as after reset without one. -/
theorem loseCarrier (d : Device) (st : Station) : d.Steady (d.modPort st Port.loseCarrier) :=
  modPort d st _ (fun _ => ⟨fun e => by simp [Port.loseCarrier, Port.powerOn] at e, fun _ => ⟨rfl, rfl, rfl⟩⟩)
    (fun _ _ => ⟨Nat.zero_le _, Nat.zero_le _⟩)

theorem contextCarrierLoss (d : Device) (st : Station) : d.Steady (d.contextCarrierLoss st) := by
  unfold Device.contextCarrierLoss
  split
  · exact refl d
  · exact (teardown _ _ _).trans (enter _ _ _)

theorem takeCarrierLoss (d : Device) (st : Station) : d.Steady (d.takeCarrierLoss st) := by
  unfold Device.takeCarrierLoss
  split
  · exact ((loseCarrier _ _).trans (notice _ _ _)).trans (contextCarrierLoss _ _)
  · exact refl d

theorem contextCarrierReturn (d : Device) (st : Station) : d.Steady (d.contextCarrierReturn st) := by
  unfold Device.contextCarrierReturn
  split
  · split
    · exact enterIdle _ _
    · exact enter _ _ _
  · exact refl d

/-- R153: a port that has its carrier again may hold frames, and hears no frame that it did not hear. -/
theorem regainCarrier (d : Device) (st : Station) : d.Steady (d.modPort st fun p => { p with carrier := true }) :=
  modPort d st _ (fun l => ⟨fun e => ⟨rfl, (l.hears e).2⟩, fun absent => nomatch absent⟩) (fun _ k => ⟨k.own, k.text⟩)

theorem takeCarrierReturn (d : Device) (st : Station) : d.Steady (d.takeCarrierReturn st) := by
  unfold Device.takeCarrierReturn
  split
  · exact refl d
  · exact ((regainCarrier _ _).trans (notice _ _ _)).trans (contextCarrierReturn _ _)

/-- R151: a start delimiter is taken on a free line alone. -/
theorem takeDelimiter (d : Device) (st : Station) : d.Steady (d.modPort st Port.takeDelimiter) := by
  refine modPort d st _ (fun l => ?_) (fun _ k => ?_) <;> unfold Port.takeDelimiter <;> split
  · rename_i free
    have free : (d.port st).carrier = true ∧ (d.port st).transmitter = .idle := by simpa [Port.lineFree] using free
    exact ⟨fun _ => free, l.silent⟩
  · exact l
  · exact ⟨k.own, k.text⟩
  · exact k

/-- R151: a port that has sent a frame was not receiving one. -/
theorem frameSent (d : Device) (st : Station) : d.Steady (d.modPort st Port.frameSent) := by
  refine modPort d st _ (fun l => ?_) (fun _ k => ?_) <;> unfold Port.frameSent <;> split
  · rename_i frame sending
    have waiting : (d.port st).receiver = .waiting := by
      cases receiver : (d.port st).receiver with
      | waiting => rfl
      | receiving => simp [(l.hears receiver).2] at sending
    exact beginNext_sound _ waiting l
  · exact l
  · exact beginNext_fits _ k
  · exact k

end Device.Steady

/-- A change of the carrier-detect inputs, and the part's taking of it unless RESET is asserted (R168). -/
theorem KeepsSafe.detect {f : Device → Device} (pins : Device → Vector Bool 16) (uplink : Device → Bool) (h : KeepsSafe f) :
    KeepsSafe fun d => { d with carrierDetect := pins d, uplinkDetect := uplink d }.running f := fun _ s =>
  running h _ (s.of_same rfl rfl rfl rfl rfl rfl rfl rfl rfl)

/-! ### Results of payment requests -/

namespace Device.Steady

theorem authResultAt {d t : Device} {i : SlotNo} {approved : Nat} {lifetime : Byte} {approving : Option Reference}
    (h : d.authResultAt i approved lifetime approving = some t) : d.Steady t := by
  unfold Device.authResultAt at h
  split at h
  · obtain rfl := Option.some.inj h
    split
    · exact approveAuth _ _ _ _ _
    · exact declineAuth _ _
  · split at h
    · obtain rfl := Option.some.inj h
      split
      · exact voidLate _ _ _
      · exact freeSlot _ _
    · cases h

theorem renewResultAt (d : Device) (i : SlotNo) (approved : Nat) (lifetime : Byte) :
    d.Steady (d.renewResultAt i approved lifetime) := by
  unfold Device.renewResultAt
  split
  · exact approveRenewal _ _ _ _
  · exact refuseRenewal _ _

theorem takeRenewResult (d : Device) (slot generation : Byte) (approved : Amount24) (lifetime : Byte) :
    d.Steady (d.takeRenewResult slot generation approved lifetime) := by
  unfold Device.takeRenewResult
  split
  · exact refl d
  · split
    · split
      · exact renewResultAt _ _ _ _
      · exact releaseFinal _ _
      · exact releaseFinal _ _
      · exact refl d
    · exact refl d

theorem takeCaptureDone (d : Device) (slot generation outcome : Byte) : d.Steady (d.takeCaptureDone slot generation outcome) := by
  unfold Device.takeCaptureDone
  split
  · exact refl d
  · split
    · exact endFinal _ _ _
    · exact refl d

theorem takeVoidDone (d : Device) (slot generation : Byte) : d.Steady (d.takeVoidDone slot generation) := by
  unfold Device.takeVoidDone
  split
  · exact refl d
  · split
    · exact endFinal _ _ _
    · exact refl d

/-- R161: a text joins the text queue of a port with the carrier PRESENT where there is room. -/
theorem takeTextDown (d : Device) (station : Byte) (text : List Byte) : d.Steady (d.takeTextDown station text) := by
  unfold Device.takeTextDown
  split
  · exact notice _ _ _
  · rename_i st _
    unfold Device.queueText
    split
    · exact refl d
    · rename_i present
      split
      · exact uplinkDropFault _ _
      · rename_i room
        refine modPort d st _ (fun l => ⟨l.hears, fun absent => absurd absent present⟩) fun _ k => ⟨k.own, ?_⟩
        simp only [List.length_append, List.length_singleton]
        omega

end Device.Steady

/-- R114: a stale approval joins the stale-void list where there is room. -/
theorem KeepsSafe.staleApproval (ref : Reference) : KeepsSafe fun d => d.staleApproval ref := fun d s => by
  unfold Device.staleApproval
  beta_reduce
  split
  · exact (Device.Steady.notice d _ _).safe s
  · rename_i room
    refine ⟨s.lines, { s.capacity with staleVoids := ?_ }, s.notices⟩
    rw [List.length_append, List.length_singleton]
    omega

theorem KeepsSafe.staleAuth (slot generation : Byte) (approving : Option Reference) :
    KeepsSafe fun d => d.staleAuth slot generation approving := fun d s => by
  unfold Device.staleAuth
  beta_reduce
  split
  · exact s
  · split
    · split
      · exact s
      · exact staleApproval _ d s
    · exact staleApproval _ d s

theorem KeepsSafe.takeAuthResult (slot generation : Byte) (approved : Amount24) (lifetime : Byte) (reference : Option Reference) :
    KeepsSafe fun d => d.takeAuthResult slot generation approved lifetime reference := fun d s => by
  unfold Device.takeAuthResult
  dsimp only
  split
  · rename_i t matched
    obtain ⟨i, -, taken⟩ := Option.bind_eq_some_iff.mp matched
    exact (Device.Steady.authResultAt taken).safe s
  · exact staleAuth _ _ _ d s

/-- R172: a request joins the input queue where there is room. -/
theorem KeepsSafe.takeMgmt (r : MgmtRequest) : KeepsSafe fun d => d.takeMgmt r := fun d s => by
  unfold Device.takeMgmt
  beta_reduce
  split
  · rename_i room
    refine ⟨s.lines, { s.capacity with input := ?_ }, s.notices⟩
    rw [List.length_append, List.length_singleton]
    exact room
  · exact (Device.Steady.notice d _ _).safe s

/-! ### The uplink's line -/

namespace KeepsSafe

theorem takeUplinkLoss : KeepsSafe Device.takeUplinkLoss := fun d s => by
  unfold Device.takeUplinkLoss
  split
  · exact (Device.Steady.notice _ _ _).safe (modUplink _ d s)
  · exact s

theorem dropFallen : KeepsSafe Device.dropFallen := fun d s => by
  unfold Device.dropFallen
  split
  · split
    · exact s
    · exact modUplink _ d s
  · exact s

theorem takeUplinkReturn : KeepsSafe Device.takeUplinkReturn := fun d s => by
  unfold Device.takeUplinkReturn
  split
  · exact s
  · exact dropFallen _ ((Device.Steady.notice _ _ _).safe (modUplink _ d s))

theorem hold (source : Source) (frame : UplinkFrame) : KeepsSafe fun d => d.hold source frame := modUplink _

theorem choosePayment : KeepsSafe Device.choosePayment := fun d s => by
  unfold Device.choosePayment
  split
  · rename_i ref rest stale
    refine hold _ _ _ (s.of_no_longer rfl rfl rfl le_rfl (List.Sublist.refl _) ?_ le_rfl le_rfl le_rfl)
    rw [stale]
    exact Nat.le_succ _
  · exact hold _ _ _ (s.of_same rfl rfl rfl rfl rfl rfl rfl rfl rfl)
  · exact s

/-- R195: the NOTICE source clears the notice-waiting flag. -/
theorem chooseNotice : KeepsSafe Device.chooseNotice := fun _ s =>
  hold _ _ _ ⟨s.lines, { s.capacity with }, fun waiting => nomatch waiting⟩

theorem choose (source : Source) : KeepsSafe fun d => d.choose source := fun d s => by
  cases source with
  | payment => exact choosePayment d s
  | notice => exact chooseNotice d s
  | reply | sessionReport | serviceUp | billing =>
    unfold Device.choose
    dsimp only
    split
    · exact hold _ _ d s
    · exact s

theorem arbitrate : KeepsSafe Device.arbitrate := fun d s => by
  unfold Device.arbitrate
  split
  · split
    · exact choose _ d s
    · exact s
  · exact s

/-! ### What the sent frame's source does -/

/-- R190: the last reply before a RESTART brings the power-on state. -/
theorem replySent : KeepsSafe Device.replySent := fun d s => by
  unfold Device.replySent
  dsimp only
  split
  · exact Device.powerOn_safe _ _ _
  · exact s.of_no_longer rfl rfl rfl le_rfl (List.Sublist.refl _) le_rfl le_rfl (List.tail_sublist _).length_le le_rfl

theorem reportSent : KeepsSafe Device.reportSent := fun _ s =>
  s.of_no_longer rfl rfl rfl le_rfl (List.tail_sublist _) le_rfl le_rfl le_rfl le_rfl

/-- R137: a step of the walk builds the next frame and changes nothing else. -/
theorem walkStep : KeepsSafe Device.walkStep := fun _ s => s.of_same rfl rfl rfl rfl rfl rfl rfl rfl rfl

theorem exportFrameSent : KeepsSafe Device.exportFrameSent := fun d s => by
  unfold Device.exportFrameSent
  split
  · rename_i number _ _
    have closed := (Device.Steady.modAccount d number fun a => { a with closedRecord := .zero }).safe s
    exact walkStep _ (closed.of_same rfl rfl rfl rfl rfl rfl rfl rfl rfl)
  · exact (Device.Steady.notice _ _ _).safe (s.of_same rfl rfl rfl rfl rfl rfl rfl rfl rfl)
  · exact s

theorem sourceSent (source : Source) : KeepsSafe fun d => d.sourceSent source := fun d s => by
  cases source with
  | reply => exact replySent d s
  | payment => exact s
  | notice => exact s
  | sessionReport => exact reportSent d s
  | serviceUp =>
    exact s.of_no_longer rfl rfl rfl (List.tail_sublist _).length_le (List.Sublist.refl _) le_rfl le_rfl le_rfl le_rfl
  | billing => exact exportFrameSent d s

theorem takeUplinkSent : KeepsSafe Device.takeUplinkSent := fun d s => by
  unfold Device.takeUplinkSent
  split
  · split
    · exact sourceSent _ _ (modUplink _ d s)
    · exact s
  · exact s

/-! ### The timebase -/

/-- R1: the overdue ends are taken, the counts fall, and the renewals that fall due are asked. -/
theorem takeTick : KeepsSafe fun d => d.takeOverdue.tick := fun d s => by
  have counted : d.takeOverdue.counted.Safe :=
    ((Device.Steady.takeOverdue d).safe s).of_same rfl rfl rfl rfl rfl rfl rfl rfl rfl
  exact (Device.Steady.foldl _ Device.Steady.lifetimeTest _ _).safe counted

end KeepsSafe

/-! ### Reports of one block to another -/

namespace Device.Steady

theorem takeReport (d : Device) (st : Station) (kind : ReportKind) (f : Device → SlotRef → Device)
    (h : ∀ (d : Device) (ref : SlotRef), d.Steady (f d ref)) : d.Steady (d.takeReport st kind f) := by
  unfold Device.takeReport
  split
  · exact refl d
  · rename_i r _
    have dropped : d.Steady { d with payReports := d.payReports.eraseP fun r => r.isFor st kind } :=
      quiet rfl rfl rfl rfl rfl rfl rfl rfl rfl rfl rfl rfl rfl rfl rfl
    exact dropped.trans (h _ r.ref)

theorem takeApproval (d : Device) (st : Station) (ref : SlotRef) : d.Steady (d.takeApproval st ref) := by
  unfold Device.takeApproval
  split
  · exact (send _ _ _).trans (openSession _ _ _)
  · exact refl d

theorem takeNoApproval (d : Device) (st : Station) (ref : SlotRef) (reason : CardReason) :
    d.Steady (d.takeNoApproval st ref reason) := by
  unfold Device.takeNoApproval
  split
  · exact (send _ _ _).trans (enterIdle _ _)
  · exact refl d

theorem takeExpiry (d : Device) (st : Station) (ref : SlotRef) : d.Steady (d.takeExpiry st ref) := by
  unfold Device.takeExpiry
  split
  · exact loseFunding _ _ _
  · exact refl d

theorem takeRenewalApproval (d : Device) (st : Station) (ref : SlotRef) : d.Steady (d.takeRenewalApproval st ref) := by
  unfold Device.takeRenewalApproval
  split
  · exact fundsArrived _ _
  · exact refl d

theorem takeRenewalRefusal (d : Device) (st : Station) (ref : SlotRef) : d.Steady (d.takeRenewalRefusal st ref) := by
  unfold Device.takeRenewalRefusal
  dsimp only
  split
  · split
    · exact (modJob _ _ _).trans (finishJob _ _ _)
    · exact modJob _ _ _
  · exact refl d

theorem dropMail (d : Device) (st : Station) : d.Steady (d.dropMail st) := modCtx _ _ _

theorem refillRunning (d : Device) (st : Station) (answer : RefillReply) : d.Steady (d.refillRunning st answer) := by
  cases answer with
  | granted draw => exact ((addDraw _ _ _).trans (modJob _ _ _)).trans (sendGo _ _)
  | waiting | refused => exact (modJob _ _ _).trans (enterHeld _ _)

theorem refillJammed (d : Device) (st : Station) (answer : RefillReply) : d.Steady (d.refillJammed st answer) := by
  cases answer with
  | granted draw => exact (addDraw _ _ _).trans (modJob _ _ _)
  | waiting | refused => exact (modJob _ _ _).trans (modCtx _ _ _)

theorem refillQuiet (d : Device) (st : Station) (number : Nat) (answer : RefillReply) :
    d.Steady (d.refillQuiet st number answer) := by
  cases answer with
  | granted draw => exact (addDraw _ _ _).trans (modJob _ _ _)
  | waiting => exact (modJob _ _ _).trans (leaveWaiting _ _ _)
  | refused => exact modJob _ _ _

theorem refillLate (d : Device) (st : Station) (number : Nat) (answer : RefillReply) :
    d.Steady (d.refillLate st number answer) := by
  cases answer with
  | granted draw => exact handBack _ _ _ _
  | waiting | refused => exact refl d

theorem applyRefill (d : Device) (st : Station) (number : Nat) (answer : RefillReply) :
    d.Steady (d.applyRefill st number answer) := by
  unfold Device.applyRefill
  split
  · exact refillLate _ _ _ _
  · split
    · exact refillLate _ _ _ _
    · split
      · exact refillQuiet _ _ _ _
      · split
        · exact refillRunning _ _ _
        · exact refillJammed _ _ _
        · exact refillQuiet _ _ _ _

theorem takeRefillAnswer (d : Device) (st : Station) : d.Steady (d.takeRefillAnswer st) := by
  unfold Device.takeRefillAnswer
  split
  · exact (dropMail _ _).trans (applyRefill _ _ _ _)
  · exact (dropMail _ _).trans (refillLate _ _ _ _)
  · exact refl d

theorem takeGrant (d : Device) (st : Station) : d.Steady (d.takeGrant st) := by
  unfold Device.takeGrant
  dsimp only
  split
  · split
    · exact ((dropMail _ _).trans (addDraw _ _ _)).trans (fundsArrived _ _)
    · exact (dropMail _ _).trans (handBack _ _ _ _)
  · exact refl d

theorem takeCloseReport (d : Device) (st : Station) : d.Steady (d.takeCloseReport st) := by
  unfold Device.takeCloseReport
  dsimp only
  split
  · split
    · exact (dropMail _ _).trans (loseFunding _ _ _)
    · exact dropMail _ _
  · exact refl d

theorem offerAgain (d : Device) (st : Station) : d.Steady (d.offerAgain st) := by
  unfold Device.offerAgain
  split
  · split
    · rename_i room
      exact ((placeReport _ _ _ room).trans (closeSession _ _ _)).trans (enterIdle _ _)
    · exact refl d
  · exact refl d

theorem takeRetry (d : Device) (st : Station) : d.Steady (d.takeRetry st) := by
  unfold Device.takeRetry
  split
  · exact (modCtx _ _ _).trans (offerAgain _ _)
  · exact refl d

end Device.Steady

theorem KeepsSafe.takeReport (st : Station) (kind : ReportKind) {f : Device → SlotRef → Device}
    (h : ∀ (d : Device) (ref : SlotRef), d.Steady (f d ref)) : KeepsSafe fun d => d.running fun d => d.takeReport st kind f :=
  running (of_steady fun d => .takeReport d st kind f h)

/-! ### Management requests -/

/-- What the owner of a request may do to the part `d`: it keeps it safe and leaves the reply queue to the management unit
(R173). -/
structure Device.Tended (d t : Device) : Prop where
  safe : d.Safe → t.Safe
  replies : t.mgmt.replies = d.mgmt.replies

theorem Device.device_answerSummary (d : Device) (number : Nat) (status : Status) : (d.answerSummary number status).device = d := rfl

theorem length_insertAccount (a : Account) (table : List Account) : (insertAccount a table).length = table.length + 1 := by
  induction table with
  | nil => rfl
  | cons b rest ih =>
    unfold insertAccount
    split
    · rfl
    · simp [ih]

theorem Device.Steady.settle (d : Device) (st : Station) : d.Steady (d.settle st) := by
  unfold Device.settle
  split
  · split
    · exact .enterIdle _ _
    · exact .enter _ _ _
  · exact .enter _ _ _

/-- R173: a reply joins the reply queue while there is room. -/
theorem Device.Safe.reply {d : Device} (s : d.Safe) (room : d.mgmt.replies.length < Config.replyCapacity) (tag : Half) (status : Status)
    (data : ReplyData) : (d.reply tag status data).Safe := by
  refine ⟨s.lines, { s.capacity with replies := ?_ }, s.notices⟩
  simp only [Device.reply, List.length_append, List.length_singleton]
  exact room

namespace Device.Tended

variable {a b c d t : Device}

theorem refl (d : Device) : d.Tended d := ⟨id, rfl⟩

theorem of_steady (h : d.Steady t) : d.Tended t := ⟨h.safe, congrArg Management.replies h.mgmt⟩

theorem trans (h : a.Tended b) (k : b.Tended c) : a.Tended c := ⟨k.safe ∘ h.safe, k.replies.trans h.replies⟩

/-- A change of what no law speaks of. -/
theorem of_same (ports : t.ports = d.ports) (paths : t.paths = d.paths) (notices : t.notices = d.notices)
    (serviceUp : t.serviceUp = d.serviceUp) (reports : t.reports = d.reports) (staleVoids : t.staleVoids = d.staleVoids)
    (input : t.mgmt.input = d.mgmt.input) (replies : t.mgmt.replies = d.mgmt.replies)
    (accounts : t.accounts.length = d.accounts.length) : d.Tended t :=
  ⟨fun s => s.of_same ports paths notices serviceUp reports staleVoids input replies accounts, replies⟩

theorem modConfig (d : Device) (st : Station) (f : StationConfig → StationConfig) : d.Tended (d.modConfig st f) :=
  of_same rfl rfl rfl rfl rfl rfl rfl rfl rfl

/-! #### The account table -/

/-- R101: an insert finds room in the table, or is refused FULL. -/
theorem insertPut (d : Device) (o : AccountOrder) : d.Tended (d.insertPut o).device := by
  unfold Device.insertPut
  split
  · exact refl d
  · split
    · exact refl d
    · split
      · exact refl d
      · rename_i room
        rw [Device.device_answerSummary]
        refine ⟨fun s => ⟨s.lines, { s.capacity with accounts := ?_ }, s.notices⟩, rfl⟩
        rw [length_insertAccount]
        omega

theorem updatePut (d : Device) (o : AccountOrder) (a : Account) : d.Tended (d.updatePut o a).device := by
  unfold Device.updatePut
  split
  · exact refl d
  · split
    · exact refl d
    · split
      · exact refl d
      · exact of_steady ((Steady.modAccount _ _ _).trans (.serveIf _ _ _))

theorem accountPut (d : Device) (r : MgmtRequest) : d.Tended (d.answerAccountPut r).device := by
  unfold Device.answerAccountPut
  split
  · exact refl d
  · split
    · exact insertPut _ _
    · exact updatePut _ _ _

theorem accountDelete (d : Device) (r : MgmtRequest) : d.Tended (d.answerAccountDelete r).device := by
  unfold Device.answerAccountDelete
  split
  · exact refl d
  · split
    · exact refl d
    · exact ⟨fun s => s.of_no_longer rfl rfl rfl le_rfl (List.Sublist.refl _) le_rfl le_rfl le_rfl (List.length_filter_le _ _), rfl⟩

theorem accountGet (d : Device) (r : MgmtRequest) : d.Tended (d.answerAccountGet r).device := by
  unfold Device.answerAccountGet
  dsimp only
  split
  · exact refl d
  · split
    · exact refl d
    · split <;> exact refl d

theorem stopAccount (d : Device) (a : Account) : d.Tended (d.stopAccount a).device := by
  unfold Device.stopAccount
  split
  · exact of_steady (.modAccount _ _ _)
  · exact refl d
  · exact refl d

theorem startAccount (d : Device) (a : Account) : d.Tended (d.startAccount a).device := by
  unfold Device.startAccount
  split
  · exact of_steady (.modAccount _ _ _)
  · exact of_steady ((Steady.modAccount _ _ _).trans (.serve _ _))
  · exact refl d

theorem closeAccount (d : Device) (a : Account) : d.Tended (d.closeAccount a).device := by
  unfold Device.closeAccount
  split
  · exact refl d
  all_goals
    rw [Device.device_answerSummary]
    exact of_steady ((Steady.modAccount _ _ _).trans (.mailClosed _ _))

theorem accountState (d : Device) (r : MgmtRequest) : d.Tended (d.answerAccountState r).device := by
  unfold Device.answerAccountState
  split
  · exact refl d
  · split
    · exact refl d
    · split
      · exact stopAccount _ _
      · exact startAccount _ _
      · exact closeAccount _ _

theorem accountCredit (d : Device) (r : MgmtRequest) : d.Tended (d.answerAccountCredit r).device := by
  unfold Device.answerAccountCredit
  dsimp only
  split
  · exact refl d
  · split
    · exact refl d
    · exact of_steady ((Steady.modAccount _ _ _).trans (.serveIf _ _ _))

/-! #### The tariff unit and the parameters -/

theorem tariffLoad (d : Device) (r : MgmtRequest) : d.Tended (d.answerTariffLoad r).device := by
  unfold Device.answerTariffLoad
  split
  · exact refl d
  · split
    · exact refl d
    · exact of_same rfl rfl rfl rfl rfl rfl rfl rfl rfl

theorem tariffSelect (d : Device) (r : MgmtRequest) : d.Tended (d.answerTariffSelect r).device := by
  unfold Device.answerTariffSelect
  split
  · exact refl d
  · split
    · exact of_same rfl rfl rfl rfl rfl rfl rfl rfl rfl
    · exact refl d

theorem setParam (d : Device) (code : Byte) (name : ParamName) (v : Nat) : d.Tended (d.setParam code name v).device := by
  unfold Device.setParam
  split
  · exact refl d
  · split
    · exact refl d
    · exact of_same rfl rfl rfl rfl rfl rfl rfl rfl rfl

theorem configSet (d : Device) (r : MgmtRequest) : d.Tended (d.answerConfigSet r).device := by
  unfold Device.answerConfigSet
  dsimp only
  split
  · exact refl d
  · exact setParam _ _ _ _

/-! #### Stations -/

/-- An answer about the station that a request names, or BAD_VALUE. -/
theorem answerStation (d : Device) (r : MgmtRequest) {f : Station → Answer} (h : ∀ st, d.Tended (f st).device) :
    d.Tended (d.answerStation r f).device := by
  unfold Device.answerStation
  split
  · exact h _
  · exact refl d

theorem stationGet (d : Device) (r : MgmtRequest) : d.Tended (d.answerStationGet r).device :=
  answerStation d r fun st => by split <;> exact refl d

theorem stationConfig (d : Device) (r : MgmtRequest) : d.Tended (d.answerStationConfig r).device :=
  answerStation d r fun st => by
    split
    · exact modConfig _ _ _
    · exact refl d

theorem serviceOff (d : Device) (st : Station) : d.Tended (d.serviceOff st) := by
  unfold Device.serviceOff
  refine (modConfig d st fun c => { c with inService := false }).trans ?_
  dsimp only
  split
  · exact refl _
  · exact of_steady ((Steady.teardown _ _ _).trans (.enter _ _ _))

theorem serviceOn (d : Device) (st : Station) : d.Tended (d.serviceOn st) := by
  unfold Device.serviceOn
  refine (modConfig d st fun c => { c with inService := true }).trans ?_
  dsimp only
  split
  · split
    · exact of_steady (.enterIdle _ _)
    · exact refl _
  · exact refl _

theorem stationService (d : Device) (r : MgmtRequest) : d.Tended (d.answerStationService r).device :=
  answerStation d r fun st => by
    dsimp only
    split
    · exact serviceOff _ _
    · split
      · exact serviceOn _ _
      · exact refl d

theorem resetStation (d : Device) (st : Station) : d.Tended (d.resetStation st) := by
  unfold Device.resetStation
  split
  · exact of_steady ((Steady.send _ _ _).trans (.settle _ _))
  · exact of_steady ((Steady.teardown _ _ _).trans (.settle _ _))

theorem stationReset (d : Device) (r : MgmtRequest) : d.Tended (d.answerStationReset r).device :=
  answerStation d r (resetStation d)

theorem wakeStation (d : Device) (st : Station) : d.Tended (d.wakeStation st) := by
  unfold Device.wakeStation
  split
  · exact of_steady ((Steady.send _ _ _).trans (.enterIdle _ _))
  · exact refl d

theorem stationWake (d : Device) (r : MgmtRequest) : d.Tended (d.answerStationWake r).device :=
  answerStation d r (wakeStation d)

theorem stationClear (d : Device) (r : MgmtRequest) : d.Tended (d.answerStationClear r).device :=
  answerStation d r fun st => of_steady (.modFaults d st fun _ => .clear)

/-! #### The other owners -/

theorem holdGet (d : Device) (r : MgmtRequest) : d.Tended (d.answerHoldGet r).device := by
  unfold Device.answerHoldGet
  split <;> exact refl d

theorem periodClose (d : Device) (r : MgmtRequest) : d.Tended (d.answerPeriodClose r).device := by
  unfold Device.answerPeriodClose
  split
  · exact refl d
  · exact of_same rfl rfl rfl rfl rfl rfl rfl rfl (List.length_map _)

theorem answerNotices (d : Device) (n : Notices) (status : Status) (h : d.notices.Lawful → n.Lawful) :
    d.Tended (d.answerNotices n status).device :=
  ⟨fun s => ⟨s.lines, { s.capacity with }, h s.notices⟩, rfl⟩

/-- R196: NOTICE_ENABLE sets the notice-waiting flag by the live set. -/
theorem noticeEnable (d : Device) (r : MgmtRequest) : d.Tended (d.answerNoticeEnable r).device := by
  unfold Device.answerNoticeEnable
  split
  · exact answerNotices d _ _ id
  · exact answerNotices d _ _ fun _ waiting => waiting

/-- R197: NOTICE_CLEAR leaves the notice-waiting flag set only with a live class left. -/
theorem noticeClear (d : Device) (r : MgmtRequest) : d.Tended (d.answerNoticeClear r).device := by
  unfold Device.answerNoticeClear
  split
  · exact answerNotices d _ _ id
  · exact answerNotices d _ _ fun _ waiting => (Bool.and_eq_true_iff.mp waiting).2

theorem restart (d : Device) (r : MgmtRequest) : d.Tended (d.answerRestart r).device :=
  of_same rfl rfl rfl rfl rfl rfl rfl rfl rfl

end Device.Tended

namespace KeepsSafe

/-- R173: the head of the input queue is taken only while a reply has room, and the owner leaves that room. -/
theorem takeRequest (accepts : Byte → Bool) {owner : Device → MgmtRequest → Answer}
    (h : ∀ (d : Device) (r : MgmtRequest), d.Tended (owner d r).device) : KeepsSafe fun d => d.takeRequest accepts owner :=
  fun d s => by
    unfold Device.takeRequest
    beta_reduce
    split
    · exact s
    · rename_i r rest input
      split
      · rename_i takes
        have room : d.mgmt.replies.length < Config.replyCapacity := by
          simp only [Management.mayTake, Bool.and_eq_true, decide_eq_true_eq] at takes
          exact takes.1.1.2
        have taken : (d.taken rest).Safe := by
          refine s.of_no_longer rfl rfl rfl le_rfl (List.Sublist.refl _) le_rfl ?_ le_rfl le_rfl
          rw [input]
          exact Nat.le_succ _
        change ((d.taken rest).answerRequest r owner).Safe
        unfold Device.answerRequest
        split
        · exact taken.reply room _ _ _
        · have tended := h (d.taken rest) r
          refine (tended.safe taken).reply ?_ _ _ _
          rw [tended.replies]
          exact room
      · exact s

theorem request {kind : Byte} {owner : Device → MgmtRequest → Answer}
    (h : ∀ (d : Device) (r : MgmtRequest), d.Tended (owner d r).device) :
    KeepsSafe fun d => d.running fun d => d.takeRequest (fun k => k == kind) owner :=
  running (takeRequest _ h)

/-! ### RESET -/

theorem releaseReset : KeepsSafe Device.releaseReset := fun d s => by
  unfold Device.releaseReset
  split
  · exact Device.powerOn_safe _ _ _
  · exact s

/-- R168: a port under RESET neither receives nor sends. -/
theorem assertReset : KeepsSafe Device.assertReset := fun d s => by
  have port : ∀ st, d.assertReset.port st = (d.port st).quiet := fun st => by simp [Device.assertReset, Device.port]
  refine ⟨fun st => ?_, { s.capacity with ports := fun st => ?_ }, s.notices⟩
  · rw [port]
    exact ⟨(nomatch ·), fun absent => ⟨((s.lines st).silent absent).1, ((s.lines st).silent absent).2.1, rfl⟩⟩
  · rw [port]
    exact ⟨(s.capacity.ports st).own, (s.capacity.ports st).text⟩

end KeepsSafe

/-! ### Every command -/

/-- A command is one operation on the part, and that operation keeps the part safe. -/
def ActsSafely (i : Instr) : Prop := ∃ f, KeepsSafe f ∧ ∀ s, exec i s = s.onDevice f

open KeepsSafe in
/-- Every command acts safely: one line for each row of the table. -/
theorem actsSafely (i : Instr) : ActsSafely i := by
  cases i with
  | start st => exact ⟨_, stationFrame st _ (of_steady fun d => .takeStart d st _), fun _ => rfl⟩
  | feed st => exact ⟨_, stationFrame st _ (of_steady fun d => .takeFeed d st _ _ _), fun _ => rfl⟩
  | exit st => exact ⟨_, stationFrame st _ (of_steady fun d => .takeExit d st _), fun _ => rfl⟩
  | jam st => exact ⟨_, ite (badStationFrame st) (stationFrame st _ (of_steady fun d => .takeJam d st _)), fun _ => rfl⟩
  | clear st => exact ⟨_, ite (badStationFrame st) (stationFrame st _ (of_steady fun d => .takeClear d st _)), fun _ => rfl⟩
  | stop st => exact ⟨_, stationFrame st _ (of_steady fun d => .takeStop d st), fun _ => rfl⟩
  | keyin st => exact ⟨_, stationFrame st _ (of_steady fun d => .takeKeyin d st _ _), fun _ => rfl⟩
  | logout st => exact ⟨_, stationFrame st _ (of_steady fun d => .takeLogout d st), fun _ => rfl⟩
  | service st => exact ⟨_, ite (stationFrame st _ (takeService st _)) (badStationFrame st), fun _ => rfl⟩
  | card st => exact ⟨_, ite (stationFrame st _ (of_steady fun d => .takeCard d st _)) (badStationFrame st), fun _ => rfl⟩
  | cardOut st => exact ⟨_, stationFrame st _ (of_steady fun d => .takeCardOut d st), fun _ => rfl⟩
  | stationBadFrame st => exact ⟨_, badStationFrame st, fun _ => rfl⟩
  | stationUnroutedFrame st =>
    exact ⟨_, ite (of_steady .refl) (stationFrame st _ (of_steady fun d => .protocolFault d st)), fun _ => rfl⟩
  | stationCarrierLoss st =>
    exact ⟨_, detect (·.carrierDetect.set st false) (·.uplinkDetect) (of_steady fun d => .takeCarrierLoss d st), fun _ => rfl⟩
  | stationCarrierReturn st =>
    exact ⟨_, detect (·.carrierDetect.set st true) (·.uplinkDetect) (of_steady fun d => .takeCarrierReturn d st), fun _ => rfl⟩
  | stationStartDelimiter st => exact ⟨_, running (of_steady fun d => .takeDelimiter d st), fun _ => rfl⟩
  | stationTransmitStart st => exact ⟨_, running (of_steady fun d => .transmit d st), fun _ => rfl⟩
  | stationFrameSent st => exact ⟨_, running (of_steady fun d => .frameSent d st), fun _ => rfl⟩
  | dozeTimerExpiry st => exact ⟨_, running (of_steady fun d => .takeDozeExpiry d st), fun _ => rfl⟩
  | idleTimerExpiry st => exact ⟨_, running (of_steady fun d => .takeIdleExpiry d st), fun _ => rfl⟩
  | waitTimerExpiry st => exact ⟨_, running (of_steady fun d => .takeWaitExpiry d st), fun _ => rfl⟩
  | jamTimerExpiry st => exact ⟨_, running (of_steady fun d => .takeJamExpiry d st), fun _ => rfl⟩
  | authResult => exact ⟨_, receiveUplink (takeAuthResult _ _ _ _ _), fun _ => rfl⟩
  | renewResult => exact ⟨_, receiveUplink (of_steady fun d => .takeRenewResult d _ _ _ _), fun _ => rfl⟩
  | captureDone => exact ⟨_, receiveUplink (of_steady fun d => .takeCaptureDone d _ _ _), fun _ => rfl⟩
  | voidDone => exact ⟨_, receiveUplink (of_steady fun d => .takeVoidDone d _ _), fun _ => rfl⟩
  | textDown => exact ⟨_, ite (receiveUplink (of_steady fun d => .takeTextDown d _ _)) badUplinkFrame, fun _ => rfl⟩
  | mgmt => exact ⟨_, ite (receiveUplink (takeMgmt _)) badUplinkFrame, fun _ => rfl⟩
  | uplinkBadFrame => exact ⟨_, badUplinkFrame, fun _ => rfl⟩
  | uplinkUnroutedFrame =>
    exact ⟨_, ite (of_steady .refl) (receiveUplink (of_steady fun d => .notice d .protocol none)), fun _ => rfl⟩
  | uplinkStartDelimiter => exact ⟨_, running (modUplink Uplink.takeDelimiter), fun _ => rfl⟩
  | uplinkCarrierLoss => exact ⟨_, detect (·.carrierDetect) (fun _ => false) takeUplinkLoss, fun _ => rfl⟩
  | uplinkCarrierReturn => exact ⟨_, detect (·.carrierDetect) (fun _ => true) takeUplinkReturn, fun _ => rfl⟩
  | arbiterChoice => exact ⟨_, running arbitrate, fun _ => rfl⟩
  | uplinkFrameSent => exact ⟨_, running takeUplinkSent, fun _ => rfl⟩
  | authTimeout i => exact ⟨_, running (of_steady fun d => .takeAuthTimeout d i), fun _ => rfl⟩
  | renewTimeout i => exact ⟨_, running (of_steady fun d => .takeRenewTimeout d i), fun _ => rfl⟩
  | finalRequestTimeout i => exact ⟨_, running (of_steady fun d => .takeFinalTimeout d i), fun _ => rfl⟩
  | lapseTimerExpiry i => exact ⟨_, running (of_steady fun d => .takeLapseExpiry d i), fun _ => rfl⟩
  | holdExpiry i => exact ⟨_, running (of_steady fun d => .takeHoldExpiry d i), fun _ => rfl⟩
  | timebaseTick => exact ⟨_, running takeTick, fun _ => rfl⟩
  | authApprovalReport st => exact ⟨_, takeReport st _ fun d ref => .takeApproval d st ref, fun _ => rfl⟩
  | authDeclineReport st => exact ⟨_, takeReport st _ fun d ref => .takeNoApproval d st ref _, fun _ => rfl⟩
  | authTimeoutReport st => exact ⟨_, takeReport st _ fun d ref => .takeNoApproval d st ref _, fun _ => rfl⟩
  | holdExpiryReport st => exact ⟨_, takeReport st _ fun d ref => .takeExpiry d st ref, fun _ => rfl⟩
  | renewalApprovalReport st => exact ⟨_, takeReport st _ fun d ref => .takeRenewalApproval d st ref, fun _ => rfl⟩
  | renewalRefusalReport st => exact ⟨_, takeReport st _ fun d ref => .takeRenewalRefusal d st ref, fun _ => rfl⟩
  | accountRefill st => exact ⟨_, running (of_steady fun d => .takeRefill d st), fun _ => rfl⟩
  | refillAnswer st => exact ⟨_, running (of_steady fun d => .takeRefillAnswer d st), fun _ => rfl⟩
  | waitingListGrant st => exact ⟨_, running (of_steady fun d => .takeGrant d st), fun _ => rfl⟩
  | accountCloseReport st => exact ⟨_, running (of_steady fun d => .takeCloseReport d st), fun _ => rfl⟩
  | reportOfferRetry st => exact ⟨_, running (of_steady fun d => .takeRetry d st), fun _ => rfl⟩
  | accountPut => exact ⟨_, request .accountPut, fun _ => rfl⟩
  | accountDelete => exact ⟨_, request .accountDelete, fun _ => rfl⟩
  | accountGet => exact ⟨_, request .accountGet, fun _ => rfl⟩
  | accountState => exact ⟨_, request .accountState, fun _ => rfl⟩
  | accountCredit => exact ⟨_, request .accountCredit, fun _ => rfl⟩
  | tariffLoad => exact ⟨_, request .tariffLoad, fun _ => rfl⟩
  | tariffSelect => exact ⟨_, request .tariffSelect, fun _ => rfl⟩
  | configSet => exact ⟨_, request .configSet, fun _ => rfl⟩
  | configGet => exact ⟨_, request fun d _ => .refl d, fun _ => rfl⟩
  | stationGet => exact ⟨_, request .stationGet, fun _ => rfl⟩
  | stationConfig => exact ⟨_, request .stationConfig, fun _ => rfl⟩
  | stationService => exact ⟨_, request .stationService, fun _ => rfl⟩
  | stationReset => exact ⟨_, request .stationReset, fun _ => rfl⟩
  | stationWake => exact ⟨_, request .stationWake, fun _ => rfl⟩
  | stationClear => exact ⟨_, request .stationClear, fun _ => rfl⟩
  | holdGet => exact ⟨_, request .holdGet, fun _ => rfl⟩
  | periodClose => exact ⟨_, request .periodClose, fun _ => rfl⟩
  | noticeEnable => exact ⟨_, request .noticeEnable, fun _ => rfl⟩
  | noticeClear => exact ⟨_, request .noticeClear, fun _ => rfl⟩
  | restart => exact ⟨_, request .restart, fun _ => rfl⟩
  | unknownRequest => exact ⟨_, running (takeRequest _ fun d _ => .refl d), fun _ => rfl⟩
  | resetAsserted => exact ⟨_, assertReset, fun _ => rfl⟩
  | resetReleased => exact ⟨_, releaseReset, fun _ => rfl⟩

theorem exec_keeps_safe {i : Instr} {s t : State} (safe : s.toDevice.Safe) (h : exec i s = .next t) : t.toDevice.Safe := by
  obtain ⟨f, keeps, acts⟩ := actsSafely i
  rw [acts, State.onDevice_eq] at h
  obtain rfl := Host.Outcome.next.inj h
  exact keeps _ safe

/-- Settles O58: an idle step changes nothing, and any other is a command's operation on the part. -/
theorem everyStepKeepsTheLaws : Obligations.EveryStepKeepsTheLaws := by
  intro s t safe h
  unfold step at h
  split at h
  · obtain rfl := Host.Outcome.next.inj h
    exact safe
  · rename_i c rest _
    exact exec_keeps_safe (s := { s with pending := rest }) safe h

end Sys2Proof.Machine
end

section
/-! PROOF. A jam (O28): the fault of a JAM's list (R56), the marks it leaves (R53, R57) and the entry into JAMMED (R55, R58). -/

namespace Sys2Proof.Machine

/-- R56: a JAM's list is at fault when it names an ordinal twice or one that no entry carries. -/
theorem jamAtFault_iff (path : List PathEntry) (ordinals : List Half) :
    jamAtFault path ordinals = true ↔ ¬ ordinals.Nodup ∨ ∃ o ∈ ordinals, ∀ e ∈ path, e.ordinal ≠ o := by
  induction ordinals with
  | nil => simp [jamAtFault]
  | cons o rest ih =>
    have absent : carries path o = false ↔ ∀ e ∈ path, e.ordinal ≠ o := by simp [carries]
    simp only [jamAtFault, Bool.or_eq_true, Bool.not_eq_true', absent, ih, List.contains_iff_mem, List.nodup_cons,
      List.exists_mem_cons_iff]
    tauto

/-- R53, R55: the marks that a JAM's list gives the entries of a path. -/
theorem markEntries_eq (named : List Half) (path : List PathEntry) : markEntries named path =
    path.map fun e => { e with mark := some (if e.ordinal ∈ named then .named else .missing) } := by
  simp [markEntries]

section
variable {d : Device} {st : Station} {ordinals : List Half}

/-- R55, R57: a JAM whose list names entries of the path, each once, replaces the marks alone. -/
theorem Device.markPath_of_good (good : ¬ (¬ ordinals.Nodup ∨ ∃ o ∈ ordinals, ∀ e ∈ d.path st, e.ordinal ≠ o)) :
    d.markPath st ordinals = d.setPath st ((d.path st).map fun e =>
      { e with mark := some (if e.ordinal ∈ ordinals then .named else .missing) }) := by
  rw [Device.markPath, markEntries_eq, Bool.eq_false_iff.mpr (mt (jamAtFault_iff _ _).mp good)]
  rfl

/-- R56: a JAM whose list is at fault sets PROTOCOL once, and the marks follow all the same. -/
theorem Device.markPath_of_bad (bad : ¬ ordinals.Nodup ∨ ∃ o ∈ ordinals, ∀ e ∈ d.path st, e.ordinal ≠ o) :
    d.markPath st ordinals = (d.protocolFault st).setPath st ((d.path st).map fun e =>
      { e with mark := some (if e.ordinal ∈ ordinals then .named else .missing) }) := by
  rw [Device.markPath, markEntries_eq, (jamAtFault_iff _ _).mpr bad]
  rfl

/-- R55, R58: the part when a station has entered JAMMED, before its path is marked. -/
def Device.jammedWith (d : Device) (st : Station) (r : Resume) : Device :=
  (d.modCtx st fun c => { c with
    state := .jammed r, dozeTimer := none, idleTimer := none, waitTimer := none
    jamTimer := some (d.mgmt.params.jamTime * 60), meters := { c.meters with jams := c.meters.jams + 1 } }).notice
      .jam (some st)

/-- R55: the entry into JAMMED is one change of the context with the JAM notice, and then the marks. -/
theorem Device.enterJammed_eq (r : Resume) : d.enterJammed st r ordinals = (d.jammedWith st r).markPath st ordinals := by
  simp only [Device.enterJammed, Device.jammedWith, Device.enter, Device.modMeters, Device.modCtx_modCtx]

/-- R55: a JAM in RUNNING, HELD or CLOSING with a job enters JAMMED with that state as the resume state. -/
theorem Device.takeJam_of_job {j : Job} (job : (d.ctx st).job = some j) (r : Resume)
    (state : (d.ctx st).state = (match r with
      | .running => .running
      | .held => .held
      | .closing => .closing)) : d.takeJam st ordinals = (d.jammedWith st r).markPath st ordinals := by
  rw [← Device.enterJammed_eq]
  cases r with
  | running | held | closing =>
    simp only at state
    simp only [Device.takeJam, state, job]

theorem Device.takeJam_of_jammed {r : Resume} (state : (d.ctx st).state = .jammed r) :
    d.takeJam st ordinals = d.markPath st ordinals := by
  simp only [Device.takeJam, state]

end

/-- Settles O28: where the JAM finds the station decides what comes before the marks, and its list whether a fault does. -/
theorem jamMarksThePath : Obligations.JamMarksThePath := by
  intro d q st j ordinals h few job marked bad faulted
  refine ⟨fun r state => ?_, fun r state => ?_⟩
  · have awake : d.awake st = d.heard st :=
      d.awake_eq_heard st (by cases r <;> simp [state]) (by cases r <;> simp [state])
    have taken := exec_jam q h (by cases r <;> simp [state]) ordinals few
    rw [awake, Device.takeJam_of_job (d := d.heard st) job r state] at taken
    refine ⟨fun good => ?_, fun wrong => ?_⟩
    · rw [Device.markPath_of_good (d := (d.heard st).jammedWith st r) good] at taken
      exact taken
    · rw [Device.markPath_of_bad (d := (d.heard st).jammedWith st r) wrong] at taken
      exact taken
  · have taken := exec_jam q h (by simp [state]) ordinals few
    rw [d.awake_eq_heard st (by simp [state]) (by simp [state]), Device.takeJam_of_jammed (d := d.heard st) state] at taken
    refine ⟨fun good => ?_, fun wrong => ?_⟩
    · rw [Device.markPath_of_good (d := d.heard st) good] at taken
      exact taken
    · rw [Device.markPath_of_bad (d := d.heard st) wrong] at taken
      exact taken

end Sys2Proof.Machine
end

section
/-! PROOF. The tariff unit (O48, O49): the banks by their codes and names, and what TARIFF_LOAD (R77) and TARIFF_SELECT (R78)
answer. -/

namespace Sys2Proof.Machine

/-! ### The banks -/

/-- R207: a bank's code reads as its name. -/
theorem readBank_of_named {b : Byte} {name : BankName} (named : b.toNat = if name = .bankA then 0 else 1) :
    readBank b = some name := by
  cases name with
  | bankA =>
    have zero : b = 0#8 := BitVec.eq_of_toNat_eq named
    simp [readBank, zero]
  | bankB =>
    have one : b = 1#8 := BitVec.eq_of_toNat_eq named
    simp [readBank, one]

/-- R207: no code from 2 up is a bank's. -/
theorem readBank_of_unknown {b : Byte} (high : 2 ≤ b.toNat) : readBank b = none := by
  have notA : b ≠ 0#8 := by rintro rfl; simp at high
  have notB : b ≠ 1#8 := by rintro rfl; simp at high
  rw [readBank, if_neg notA, if_neg notB]

theorem Tariff.get_modBank_same (t : Tariff) (name : BankName) (f : Bank → Bank) :
    (t.modBank name f).get name = f (t.get name) := by
  cases name <;> rfl

theorem Tariff.get_modBank_of_ne (t : Tariff) {name other : BankName} (f : Bank → Bank) (h : other ≠ name) :
    (t.modBank name f).get other = t.get other := by
  cases name with
  | bankA =>
    cases other with
    | bankA => exact absurd rfl h
    | bankB => rfl
  | bankB =>
    cases other with
    | bankA => rfl
    | bankB => exact absurd rfl h

theorem Tariff.selector_modBank (t : Tariff) (name : BankName) (f : Bank → Bank) :
    (t.modBank name f).selector = t.selector := by
  cases name <;> rfl

/-- R77: the tariff unit when the prices of a bank have been replaced. -/
def Tariff.load (t : Tariff) (name : BankName) (prices : List Byte) : Tariff :=
  t.modBank name fun k => { k with prices := readPrices prices, loaded := true }

theorem Tariff.get_load_same (t : Tariff) (name : BankName) (prices : List Byte) :
    (t.load name prices).get name = { t.get name with prices := readPrices prices, loaded := true } :=
  t.get_modBank_same name _

/-- R77: the price of class `c` stands in the parameters 2c and 2c + 1 behind the bank. -/
theorem readPrices_getElem (bytes : List Byte) (c : Fin 8) :
    (readPrices bytes)[c] = bytes.getD (2 * c.val) 0 ++ bytes.getD (2 * c.val + 1) 0 := by
  simp [readPrices, half]

/-! ### The answers of the tariff unit -/

section
variable {d : Device} {tag : Half} {kind b : Byte} {prices : List Byte} {name : BankName}

theorem Device.answerTariffLoad_of_unknown (unknown : readBank b = none) :
    d.answerTariffLoad { tag := tag, kind := kind, params := b :: prices } = d.answerTariff .badValue := by
  simp [Device.answerTariffLoad, unknown]

theorem Device.answerTariffLoad_of_bound (named : readBank b = some name) (bound : 0 < (d.tariff.get name).refCount) :
    d.answerTariffLoad { tag := tag, kind := kind, params := b :: prices } = d.answerTariff .inUse := by
  simp [Device.answerTariffLoad, named, bound]

theorem Device.answerTariffLoad_of_unbound (named : readBank b = some name) (unbound : (d.tariff.get name).refCount = 0) :
    d.answerTariffLoad { tag := tag, kind := kind, params := b :: prices } =
      Device.answerTariff { d with tariff := d.tariff.load name prices } .ok := by
  simp [Device.answerTariffLoad, named, unbound, Tariff.load]

theorem Device.answerTariffSelect_of_unknown (unknown : readBank b = none) :
    d.answerTariffSelect { tag := tag, kind := kind, params := [b] } = d.answerTariff .badValue := by
  simp [Device.answerTariffSelect, unknown]

theorem Device.answerTariffSelect_of_empty (named : readBank b = some name) (empty : (d.tariff.get name).loaded = false) :
    d.answerTariffSelect { tag := tag, kind := kind, params := [b] } = d.answerTariff .badValue := by
  simp [Device.answerTariffSelect, named, empty]

theorem Device.answerTariffSelect_of_loaded (named : readBank b = some name) (loaded : (d.tariff.get name).loaded = true) :
    d.answerTariffSelect { tag := tag, kind := kind, params := [b] } =
      Device.answerTariff { d with tariff := { d.tariff with selector := name } } .ok := by
  simp [Device.answerTariffSelect, named, loaded]

end

/-! ### The requests -/

section
variable {d : Device} (q : List Instr) {tag : Half} {rest : List MgmtRequest} {b : Byte} {prices : List Byte}

/-- R77, R80: a TARIFF_LOAD of a good length is answered by the tariff unit, with the unit's state after the request. -/
theorem exec_tariffLoad_of_answer {t : Device} {status : Status} (length : prices.length = 16)
    (h : d.Takes { tag := tag, kind := 0x08#8, params := b :: prices } rest)
    (answer : (d.taken rest).answerTariffLoad { tag := tag, kind := 0x08#8, params := b :: prices } = t.answerTariff status) :
    exec .tariffLoad ⟨d, q⟩ = .next ⟨t.reply tag status (.tariff t.tariff.view), q⟩ := by
  refine (State.onRequest_of_takes q Device.answerTariffLoad h ?_).trans ?_
  · simp [requestFault, paramLength, namesStation, length]
  · rw [answer]; rfl

/-- R78, R80: a TARIFF_SELECT is answered by the tariff unit, with the unit's state after the request. -/
theorem exec_tariffSelect_of_answer {t : Device} {status : Status}
    (h : d.Takes { tag := tag, kind := 0x09#8, params := [b] } rest)
    (answer : (d.taken rest).answerTariffSelect { tag := tag, kind := 0x09#8, params := [b] } = t.answerTariff status) :
    exec .tariffSelect ⟨d, q⟩ = .next ⟨t.reply tag status (.tariff t.tariff.view), q⟩ := by
  refine (State.onRequest_of_takes q Device.answerTariffSelect h ?_).trans ?_
  · simp [requestFault, paramLength, namesStation]
  · rw [answer]; rfl

end

/-- Settles O48: the bank's code and its reference count choose among the three answers of TARIFF_LOAD. -/
theorem tariffLoadReplacesUnboundBank : Obligations.TariffLoadReplacesUnboundBank := by
  intro d q tag rest b prices length h
  refine ⟨fun unknown => ?_, fun name named => ⟨fun bound => ?_, fun unbound => ?_⟩⟩
  · exact exec_tariffLoad_of_answer q length h (Device.answerTariffLoad_of_unknown (readBank_of_unknown unknown))
  · exact exec_tariffLoad_of_answer q length h (Device.answerTariffLoad_of_bound (readBank_of_named named) bound)
  · refine ⟨d.tariff.load name prices, ?_, ?_, ?_, ?_, fun c => ?_, fun other different => ?_⟩
    · exact exec_tariffLoad_of_answer q length h (Device.answerTariffLoad_of_unbound (readBank_of_named named) unbound)
    · exact d.tariff.selector_modBank name _
    · rw [Tariff.get_load_same]
    · rw [Tariff.get_load_same]
      exact unbound
    · rw [Tariff.get_load_same]
      exact readPrices_getElem prices c
    · exact d.tariff.get_modBank_of_ne _ different

/-- Settles O49: the bank's code and whether it is LOADED choose between the two answers of TARIFF_SELECT. -/
theorem tariffSelectNamesLoadedBank : Obligations.TariffSelectNamesLoadedBank := by
  intro d q tag rest b h
  refine ⟨fun unknown => ?_, fun name named => ⟨fun empty => ?_, fun loaded => ?_⟩⟩
  · exact exec_tariffSelect_of_answer q h (Device.answerTariffSelect_of_unknown (readBank_of_unknown unknown))
  · exact exec_tariffSelect_of_answer q h (Device.answerTariffSelect_of_empty (readBank_of_named named) empty)
  · exact exec_tariffSelect_of_answer q h (Device.answerTariffSelect_of_loaded (readBank_of_named named) loaded)

end Sys2Proof.Machine
end

section
/-! PROOF. Every step keeps the outstanding limit, the order of the account table and the waiting lists free of repeats (O59): what
each operation within a step does to the three. Only a few operations touch them: a request that ends lowers the count, one that is
sent is sent below the limit (R111), and the account table's own requests change the fields of entries. -/

namespace Sys2Proof.Machine

/-! ### The three laws, and what keeps them -/

/-- R111, R112: the outstanding requests are within the configured limit. -/
def Device.WithinLimit (d : Device) : Prop := d.outstanding ≤ d.mgmt.params.outstandingLimit

/-- R82: the account table is in ascending order of number. -/
def Device.InOrder (d : Device) : Prop := (d.accounts.map (·.number)).Pairwise (· < ·)

theorem mem_insertAccount {a b : Account} {table : List Account} : b ∈ insertAccount a table ↔ b = a ∨ b ∈ table := by
  induction table with
  | nil => exact List.mem_cons
  | cons c rest ih =>
    unfold insertAccount
    split
    · exact List.mem_cons
    · rw [List.mem_cons, ih, List.mem_cons]
      tauto

/-- R82, R101: an entry with a new number is inserted in the order of the numbers. -/
theorem insertAccount_inOrder {a : Account} {table : List Account} (fresh : ∀ b ∈ table, b.number ≠ a.number)
    (order : (table.map (·.number)).Pairwise (· < ·)) : ((insertAccount a table).map (·.number)).Pairwise (· < ·) := by
  induction table with
  | nil => exact List.pairwise_singleton _ _
  | cons c rest ih =>
    obtain ⟨lowest, ordered⟩ := List.pairwise_cons.mp order
    obtain ⟨other, others⟩ := List.forall_mem_cons.mp fresh
    unfold insertAccount
    split
    · rename_i below
      refine List.pairwise_cons.mpr ⟨fun n member => ?_, order⟩
      obtain rfl | member := List.mem_cons.mp member
      · exact below
      · exact below.trans (lowest n member)
    · rename_i above
      refine List.pairwise_cons.mpr ⟨fun n member => ?_, ih others ordered⟩
      obtain ⟨b, found, rfl⟩ := List.mem_map.mp member
      obtain rfl | found := mem_insertAccount.mp found
      · exact lt_of_le_of_ne (Nat.le_of_not_lt above) other
      · exact lowest _ (List.mem_map_of_mem found)

/-- An operation that takes the part `d` to `t` keeps each of the three laws. -/
structure Device.Orderly (d t : Device) : Prop where
  limit : d.WithinLimit → t.WithinLimit
  order : d.InOrder → t.InOrder
  apart : d.WaitersApart → t.WaitersApart

namespace Device.Orderly

variable {a b c d t : Device}

theorem refl (d : Device) : d.Orderly d := ⟨id, id, id⟩

theorem trans (h : a.Orderly b) (k : b.Orderly c) : a.Orderly c := ⟨k.limit ∘ h.limit, k.order ∘ h.order, k.apart ∘ h.apart⟩

/-- An operation that leaves the account table and the outstanding limit alone, and makes no request OUTSTANDING. -/
theorem quiet (accounts : t.accounts = d.accounts) (outstanding : t.outstanding ≤ d.outstanding)
    (params : t.mgmt.params = d.mgmt.params) : d.Orderly t := by
  refine ⟨fun limit => ?_, fun order => ?_, fun apart => ?_⟩
  · unfold Device.WithinLimit
    rw [params]
    exact outstanding.trans limit
  · unfold Device.InOrder
    rw [accounts]
    exact order
  · unfold Device.WaitersApart
    rw [accounts]
    exact apart

/-- What follows a change that touches neither the account table nor the outstanding count. -/
theorem of_before (h : t.Orderly c) (accounts : t.accounts = d.accounts) (outstanding : t.outstanding ≤ d.outstanding)
    (params : t.mgmt.params = d.mgmt.params) : d.Orderly c := (quiet accounts outstanding params).trans h

theorem ite {p : Prop} [Decidable p] (h : d.Orderly a) (k : d.Orderly b) : d.Orderly (if p then a else b) := by
  split
  · exact h
  · exact k

theorem foldl {α : Type} (f : Device → α → Device) (h : ∀ (d : Device) (x : α), d.Orderly (f d x)) (l : List α) (d : Device) :
    d.Orderly (l.foldl f d) := by
  induction l generalizing d with
  | nil => exact refl d
  | cons x rest ih => exact (h d x).trans (ih _)

/-! ### Updates that touch neither the table nor the count -/

theorem modCtx (d : Device) (st : Station) (f : Context → Context) : d.Orderly (d.modCtx st f) := quiet rfl le_rfl rfl

theorem modSlot (d : Device) (i : SlotNo) (f : Slot → Slot) : d.Orderly (d.modSlot i f) := quiet rfl le_rfl rfl

theorem modPort (d : Device) (st : Station) (f : Port → Port) : d.Orderly (d.modPort st f) := quiet rfl le_rfl rfl

theorem modConfig (d : Device) (st : Station) (f : StationConfig → StationConfig) : d.Orderly (d.modConfig st f) :=
  quiet rfl le_rfl rfl

theorem modUplink (d : Device) (f : Uplink → Uplink) : d.Orderly (d.modUplink f) := quiet rfl le_rfl rfl

theorem setPath (d : Device) (st : Station) (p : List PathEntry) : d.Orderly (d.setPath st p) := quiet rfl le_rfl rfl

theorem notice (d : Device) (c : NoticeClass) (x : Option Station) : d.Orderly (d.notice c x) := quiet rfl le_rfl rfl

/-- R25: a sticky fault with its notice. -/
theorem fault (d : Device) (st : Station) (f : Faults → Faults) (c : NoticeClass) :
    d.Orderly ((d.modFaults st f).notice c (some st)) := quiet rfl le_rfl rfl

theorem protocolFaultIf (d : Device) (bad : Bool) (st : Station) : d.Orderly (d.protocolFaultIf bad st) :=
  ite (fault _ _ _ _) (refl d)

theorem send (d : Device) (st : Station) (f : StationFrame) : d.Orderly (d.send st f) :=
  quiet (d.send_accounts st f) (d.send_outstanding st f).le (congrArg _ (d.send_mgmt st f))

theorem releaseBank (d : Device) (b : BankName) : d.Orderly (d.releaseBank b) := quiet rfl le_rfl rfl

/-! ### The payment unit -/

theorem queueRequest (d : Device) (i : SlotNo) (kind : RequestKind) (funds : Bool) (amount : Nat) :
    d.Orderly (d.queueRequest i kind funds amount) := quiet rfl le_rfl rfl

theorem queueFinal (d : Device) (i : SlotNo) (f : FinalRequest) : d.Orderly (d.queueFinal i f) := quiet rfl le_rfl rfl

theorem withdrawQueued (d : Device) (i : SlotNo) : d.Orderly (d.withdrawQueued i) := quiet rfl le_rfl rfl

/-- R112: the end of an OUTSTANDING request lowers the count. -/
theorem endOutstanding (d : Device) (i : SlotNo) : d.Orderly (d.endOutstanding i) := quiet rfl (Nat.sub_le _ _) rfl

theorem payReport (d : Device) (i : SlotNo) (kind : ReportKind) : d.Orderly (d.payReport i kind) := by
  unfold Device.payReport
  split
  · exact quiet rfl le_rfl rfl
  · exact refl d

theorem lifetimeTest (d : Device) (i : SlotNo) : d.Orderly (d.lifetimeTest i) :=
  ite ((queueRequest _ _ _ _ _).trans (modSlot _ _ _)) (refl d)

theorem fundsRenewal (d : Device) (i : SlotNo) : d.Orderly (d.fundsRenewal i).1 := by
  have sought := Device.RenewalSought.fundsRenewal d i
  exact quiet sought.accounts sought.funds.outstanding.le (congrArg _ sought.funds.steady.mgmt)

theorem finalizeSlot (d : Device) (i : SlotNo) (consumed : Nat) : d.Orderly (d.finalizeSlot i consumed) :=
  quiet (d.finalizeSlot_accounts i consumed) (d.finalizeSlot_outstanding i consumed).le (congrArg _ (d.finalizeSlot_mgmt i consumed))


theorem lapse (d : Device) (i : SlotNo) : d.Orderly (d.lapse i) := modSlot _ _ _

theorem abandonSlot (d : Device) (ref : SlotRef) : d.Orderly (d.abandonSlot ref) := by
  unfold Device.abandonSlot
  refine ite (refl d) ?_
  split
  · exact ite ((endOutstanding _ _).trans (lapse _ _)) ((withdrawQueued _ _).trans (lapse _ _))
  · exact finalizeSlot _ _ _
  · exact finalizeSlot _ _ _
  · exact finalizeSlot _ _ _
  · exact refl d

theorem approveAuth (d : Device) (i : SlotNo) (ref : Reference) (approved : Nat) (lifetime : Byte) :
    d.Orderly (d.approveAuth i ref approved lifetime) :=
  (((endOutstanding _ _).trans (modSlot _ _ _)).trans (payReport _ _ _)).trans (lifetimeTest _ _)

theorem declineAuth (d : Device) (i : SlotNo) : d.Orderly (d.declineAuth i) :=
  ((endOutstanding _ _).trans (payReport _ _ _)).trans (modSlot _ _ _)

theorem voidLate (d : Device) (i : SlotNo) (ref : Reference) : d.Orderly (d.voidLate i ref) := quiet rfl le_rfl rfl

theorem refuseRenewal (d : Device) (i : SlotNo) : d.Orderly (d.refuseRenewal i) := by
  have ended := (endOutstanding d i).trans (modSlot _ i fun s => { s with state := .active, renewalsRefused := true })
  exact ite (ended.trans (payReport _ _ _)) ended

theorem approveRenewal (d : Device) (i : SlotNo) (approved : Nat) (lifetime : Byte) :
    d.Orderly (d.approveRenewal i approved lifetime) := by
  have ended := ((endOutstanding d i).trans (modSlot _ i fun s => s.activated approved lifetime)).trans (lifetimeTest _ i)
  exact ite (ended.trans (payReport _ _ _)) ended

theorem releaseFinal (d : Device) (i : SlotNo) : d.Orderly (d.releaseFinal i) := by
  unfold Device.releaseFinal
  split
  · exact ((endOutstanding _ _).trans (modSlot _ _ _)).trans (queueFinal _ _ _)
  · exact refl d

theorem endFinal (d : Device) (i : SlotNo) (unconfirmed : Bool) : d.Orderly (d.endFinal i unconfirmed) :=
  ((endOutstanding d i).trans (ite (notice _ _ _) (refl _))).trans (modSlot _ _ _)

theorem expireSlot (d : Device) (i : SlotNo) : d.Orderly (d.expireSlot i) := by
  unfold Device.expireSlot
  refine trans (trans ?_ ((modSlot _ _ _).trans (notice _ _ _))) (payReport _ _ _)
  split
  · exact withdrawQueued _ _
  · exact endOutstanding _ _
  · exact refl d

/-! ### The account table -/

/-- A change of one entry that keeps its number, and keeps a list free of repeats that is so. -/
theorem modAccount (d : Device) (n : Nat) (f : Account → Account) (number : ∀ a, (f a).number = a.number)
    (apart : d.WaitersApart → ∀ a, (a.waiting.map (·.station)).Nodup → ((f a).waiting.map (·.station)).Nodup) :
    d.Orderly (d.modAccount n f) := by
  refine ⟨id, fun order => ?_, fun lists a member => ?_⟩
  · have numbers : (d.modAccount n f).accounts.map (·.number) = d.accounts.map (·.number) := by
      simp only [Device.modAccount, Sys2Proof.Machine.modAccount, List.map_map]
      refine List.map_congr_left fun a _ => ?_
      simp only [Function.comp]
      split
      · exact number a
      · rfl
    unfold Device.InOrder
    rw [numbers]
    exact order
  · obtain ⟨b, found, rfl⟩ := List.mem_map.mp member
    split
    · exact apart lists b (lists b found)
    · exact lists b found

/-- A change of one entry's fields other than its number and its waiting list. -/
theorem modFields (d : Device) (n : Nat) (f : Account → Account) (number : ∀ a, (f a).number = a.number := by exact fun _ => rfl)
    (waiting : ∀ a, (f a).waiting = a.waiting := by exact fun _ => rfl) : d.Orderly (d.modAccount n f) :=
  modAccount d n f number fun _ a apart => by
    rw [waiting]
    exact apart

/-- A change of one entry that takes a station off its waiting list. -/
theorem modLeft (d : Device) (n : Nat) (f : Account → Account) (st : Station)
    (number : ∀ a, (f a).number = a.number := by exact fun _ => rfl)
    (waiting : ∀ a, (f a).waiting = (a.dropWaiter st).waiting := by exact fun _ => rfl) : d.Orderly (d.modAccount n f) :=
  modAccount d n f number fun _ a apart => by
    rw [waiting]
    exact a.dropWaiter_apart st apart

theorem mail (d : Device) (st : Station) (m : AccountMail) : d.Orderly (d.mail st m) := modCtx _ _ _

theorem mailGrants (d : Device) (number : Nat) (grants : List (Station × Nat)) : d.Orderly (d.mailGrants number grants) :=
  foldl _ (fun _ _ => mail _ _ _) _ _

/-- R93: what a service leaves of an entry's list is the tail of it. -/
theorem serve (d : Device) (number : Nat) : d.Orderly (d.serve number) := by
  unfold Device.serve
  split
  · exact refl d
  · rename_i a known
    refine ite (trans ?_ (mailGrants _ _ _)) (refl d)
    refine modAccount d number _ (fun _ => rfl) fun lists _ _ => ?_
    exact (lists a (List.mem_of_find?_eq_some known)).sublist ((serveList_suffix _ _ _).sublist.map _)

theorem serveIf (d : Device) (due : Bool) (number : Nat) : d.Orderly (d.serveIf due number) := ite (serve d number) (refl d)

/-- R91: the one request that makes a waiting list longer. -/
theorem takeRefill (d : Device) (st : Station) : d.Orderly (d.takeRefill st) := by
  unfold Device.takeRefill
  split
  · exact refl d
  · refine (modCtx d st fun c => { c with refillAsked := none }).trans ?_
    dsimp only
    split
    · exact mail _ _ _
    · refine ite (mail _ _ _) (ite (trans ?_ (mail _ _ _)) (trans ?_ (mail _ _ _)))
      · exact modAccount _ _ _ (fun a => a.number_addWaiter _) fun _ a apart => a.addWaiter_apart _ apart
      · exact modFields _ _ _

theorem admissionDraw (d : Device) (st : Station) (number price : Nat) : d.Orderly (d.admissionDraw st number price).1 := by
  unfold Device.admissionDraw
  refine (takeRefill d st).trans ?_
  dsimp only
  split
  · exact refl _
  · split
    · exact refl _
    · exact refl _
    · split
      · exact refl _
      · exact modFields _ _ _

theorem commitAccount (d : Device) (st : Station) (number price sides : Nat) (cls : PriceClass) :
    d.Orderly (d.commitAccount st number price sides cls) :=
  (takeRefill d st).trans (modFields _ _ _)

theorem leaveWaiting (d : Device) (st : Station) (number : Nat) : d.Orderly (d.leaveWaiting st number) :=
  (takeRefill d st).trans (modLeft _ _ _ st)

theorem jobEndRelease (d : Device) (st : Station) (number draw : Nat) : d.Orderly (d.jobEndRelease st number draw) :=
  ((leaveWaiting d st number).trans (modFields _ _ _)).trans (serveIf _ _ _)

theorem handBack (d : Device) (st : Station) (number draw : Nat) : d.Orderly (d.handBack st number draw) :=
  ((takeRefill d st).trans (modFields _ _ _)).trans (serveIf _ _ _)

theorem sessionRelease (d : Device) (st : Station) (number draw : Nat) : d.Orderly (d.sessionRelease st number draw) :=
  ((takeRefill d st).trans (modLeft _ _ _ st)).trans (serveIf _ _ _)

theorem credentialCheck (d : Device) (st : Station) (number : Nat) (pin : Half) :
    d.Orderly (d.credentialCheck st number pin).1 := by
  have failed := modFields d number (·.failPin d.mgmt.params.pinFailureLimit)
  unfold Device.credentialCheck
  split
  · exact refl d
  · split
    · exact refl d
    · split
      · exact refl d
      · exact refl d
      · split
        · exact ite (failed.trans (notice _ _ _)) failed
        · exact modFields _ _ _

theorem mailClosed (d : Device) (number : Nat) : d.Orderly (d.mailClosed number) :=
  foldl _ (fun d _ => ite (mail d _ _) (refl d)) _ _

/-! ### Sheets and jobs -/

theorem sendGo (d : Device) (st : Station) : d.Orderly (d.sendGo st) := by
  unfold Device.sendGo
  split
  · exact ite (refl d) ((modCtx _ _ _).trans (send _ _ _))
  · exact refl d

theorem sendPause (d : Device) (st : Station) (r : PauseReason) : d.Orderly (d.sendPause st r) := (modCtx _ _ _).trans (send _ _ _)

theorem enterIdle (d : Device) (st : Station) : d.Orderly (d.enterIdle st) := quiet rfl le_rfl rfl

theorem enterOpen (d : Device) (st : Station) : d.Orderly (d.enterOpen st) :=
  quiet (d.enterOpen_accounts st) (d.enterOpen_outstanding st).le (congrArg _ (d.enterOpen_mgmt st))

theorem enterHeld (d : Device) (st : Station) : d.Orderly (d.enterHeld st) := by
  rw [Device.enterHeld_eq]
  exact (modCtx _ _ _).trans (send _ _ _)

theorem announceRunning (d : Device) (st : Station) : d.Orderly (d.announceRunning st) := by
  unfold Device.announceRunning
  split
  · exact ite (refl d) (ite (sendPause _ _ _) (sendGo _ _))
  · exact refl d

theorem enterRunning (d : Device) (st : Station) : d.Orderly (d.enterRunning st) := (modCtx _ _ _).trans (announceRunning _ _)

theorem commitEntry (d : Device) (st : Station) (e : PathEntry) : d.Orderly (d.commitEntry st e) := by
  unfold Device.commitEntry
  split
  · exact (modCtx _ _ _).trans (commitAccount _ _ _ _ _ _)
  · exact modSlot _ _ _
  · exact refl d

theorem deliver (d : Device) (st : Station) (e : PathEntry) : d.Orderly (d.deliver st e) := by
  have charged : d.Orderly (d.chargeEntry st e) := ite ((commitEntry _ _ _).trans (modCtx _ _ _)) (quiet rfl le_rfl rfl)
  exact charged.trans (quiet rfl le_rfl rfl)

theorem returnCharge (d : Device) (st : Station) (e : PathEntry) : d.Orderly (d.returnCharge st e) := by
  unfold Device.returnCharge
  split
  · exact modSlot _ _ _
  · exact refl d

theorem outcomeDelivered (d : Device) (st : Station) (e : PathEntry) : d.Orderly (d.outcomeDelivered st e) :=
  (setPath _ _ _).trans (deliver _ _ _)

theorem outcomeSpoiled (d : Device) (st : Station) (e : PathEntry) : d.Orderly (d.outcomeSpoiled st e) :=
  ((setPath _ _ _).trans (returnCharge _ _ _)).trans (quiet rfl le_rfl rfl)

theorem resolveEntry (d : Device) (st : Station) (p : JamPolicy) (e : PathEntry) : d.Orderly (d.resolveEntry st p e) := by
  cases p with
  | charge => exact outcomeDelivered _ _ _
  | forgive => exact ((setPath _ _ _).trans (returnCharge _ _ _)).trans (quiet rfl le_rfl rfl)

theorem clearEntry (d : Device) (st : Station) (stand : List (Half × Outcome3)) (e : PathEntry) :
    d.Orderly (d.clearEntry st stand e) := by
  unfold Device.clearEntry
  split
  · exact outcomeDelivered _ _ _
  · exact outcomeSpoiled _ _ _
  · exact refl d
  · exact resolveEntry _ _ _ _

theorem resolveAll (d : Device) (st : Station) : d.Orderly (d.resolveAll st) := foldl _ (fun _ _ => resolveEntry _ _ _ _) _ _

theorem releaseDraw (d : Device) (st : Station) (draw : Nat) : d.Orderly (d.releaseDraw st draw) := by
  unfold Device.releaseDraw
  split
  · exact jobEndRelease _ _ _ _
  · exact refl d

theorem endJob (d : Device) (st : Station) (reason : JobEndReason) (tell : Bool) : d.Orderly (d.endJob st reason tell) := by
  cases job : (d.ctx st).job with
  | none =>
    rw [Device.endJob_of_none job]
    exact refl d
  | some j =>
    rw [Device.endJob_of_job job]
    have ending : d.Orderly (d.jobEnding st reason tell) := by
      rw [Device.jobEnding_rest]
      exact quiet rfl le_rfl rfl
    exact (ending.trans (releaseDraw _ _ _)).trans (modCtx _ _ _)

/-! ### Sessions -/

theorem placeReport (d : Device) (st : Station) (reason : EndReason) : d.Orderly (d.placeReport st reason) := by
  unfold Device.placeReport
  split
  · exact quiet rfl le_rfl rfl
  · exact refl d

theorem releaseSession (d : Device) (st : Station) : d.Orderly (d.releaseSession st) := by
  unfold Device.releaseSession
  split
  · exact refl d
  · dsimp only
    refine trans ?_ (releaseBank _ _)
    split
    · exact sessionRelease _ _ _ _
    · exact finalizeSlot _ _ _

theorem closeSession (d : Device) (st : Station) (reason : EndReason) : d.Orderly (d.closeSession st reason) :=
  ((releaseSession d st).trans (ite (refl _) (send _ _ _))).trans (modCtx _ _ _)

theorem closeOut (d : Device) (st : Station) (reason : EndReason) : d.Orderly (d.closeOut st reason) :=
  ((placeReport d st reason).trans (closeSession _ _ _)).trans (enterIdle _ _)

theorem endSession (d : Device) (st : Station) (reason : EndReason) : d.Orderly (d.endSession st reason) :=
  ite (closeOut d st reason) (quiet rfl le_rfl rfl)

theorem afterJob (d : Device) (st : Station) (reason : JobEndReason) (last : Bool) : d.Orderly (d.afterJob st reason last) := by
  unfold Device.afterJob
  split
  · exact endSession _ _ _
  · exact ite (endSession _ _ _) (ite (endSession _ _ _) (enterOpen _ _))

theorem finishJob (d : Device) (st : Station) (reason : JobEndReason) : d.Orderly (d.finishJob st reason) := by
  unfold Device.finishJob
  split
  · exact (endJob _ _ _ _).trans (afterJob _ _ _ _)
  · exact refl d

theorem drain (d : Device) (st : Station) : d.Orderly (d.drain st) := finishJob _ _ _

theorem finalizeTorn (d : Device) (st : Station) (reason : EndReason) : d.Orderly (d.finalizeTorn st reason) :=
  ((resolveAll d st).trans (ite (placeReport _ _ _) (fault _ _ _ _))).trans (closeSession _ _ _)

theorem teardown (d : Device) (st : Station) (reason : EndReason) : d.Orderly (d.teardown st reason) := by
  unfold Device.teardown
  split
  case h_1 | h_2 | h_3 => exact refl d
  case h_4 => exact (abandonSlot d _).trans (ite (refl _) (send _ _ _))
  case h_5 => exact finalizeTorn _ _ _
  all_goals exact ((resolveAll _ _).trans (endJob _ _ _ _)).trans (finalizeTorn _ _ _)

/-! ### Funds -/

theorem askRenewal (d : Device) (st : Station) (i : SlotNo) : d.Orderly (d.askRenewal st i) :=
  ite ((fundsRenewal d i).trans (modCtx _ _ _)) ((fundsRenewal d i).trans (modCtx _ _ _))

theorem fundsTrigger (d : Device) (st : Station) : d.Orderly (d.fundsTrigger st) := by
  unfold Device.fundsTrigger
  split
  · refine ite (refl d) ?_
    split
    · exact quiet rfl le_rfl rfl
    · exact (askRenewal _ _ _).trans (enterHeld _ _)
  · exact refl d

theorem askAgain (d : Device) (st : Station) : d.Orderly (d.askAgain st) := by
  unfold Device.askAgain
  split
  · exact askRenewal _ _ _
  · exact refl d

theorem fundsArrived (d : Device) (st : Station) : d.Orderly (d.fundsArrived st) := by
  unfold Device.fundsArrived
  refine (modCtx d st fun c => { c with job := c.job.map fun j => { j with fundsRequest := .none } }).trans ?_
  dsimp only
  split
  · exact ite (enterRunning _ _) (ite (refl _) (askAgain _ _))
  · exact ite (modCtx _ _ _) (askAgain _ _)
  · exact refl _

theorem loseFunding (d : Device) (st : Station) (r : EndReason) : d.Orderly (d.loseFunding st r) := by
  have lost : d.Orderly (d.fundsLost st r) := (send d st _).trans (quiet rfl le_rfl rfl)
  unfold Device.loseFunding
  simp only [Device.fundsLost_eq]
  split
  · exact endSession _ _ _
  · exact ite (lost.trans (drain _ _)) lost
  · exact ite (lost.trans (drain _ _)) lost
  · exact quiet rfl le_rfl rfl
  · exact refl d

theorem admission (d : Device) (st : Station) (order : Option JobOrder) : d.Orderly (d.admission st order).1 := by
  unfold Device.admission
  split
  · exact refl d
  · exact refl d
  · split
    · unfold Device.admitAccount
      split
      · exact refl d
      · split
        · dsimp only
          split
          · exact ((admissionDraw _ _ _ _).trans (modCtx _ _ _)).trans (enterRunning _ _)
          · exact admissionDraw _ _ _ _
        · exact refl d
    · unfold Device.admitCard
      dsimp only
      split
      · exact (modCtx _ _ _).trans (enterRunning _ _)
      · split
        · split
          · exact ((fundsRenewal _ _).trans (modCtx _ _ _)).trans (enterHeld _ _)
          · exact fundsRenewal _ _
        · exact refl d

/-! ### Station frames -/

theorem takeStart (d : Device) (st : Station) (order : Option JobOrder) : d.Orderly (d.takeStart st order) := by
  unfold Device.takeStart
  split
  case h_2 => exact refl d
  case h_5 =>
    dsimp only
    split
    · exact admission _ _ _
    · exact (admission _ _ _).trans (send _ _ _)
  case h_6 =>
    refine ite ?_ (send _ _ _)
    unfold Device.replaceJob
    dsimp only
    split
    · exact (endJob _ _ _ _).trans (admission _ _ _)
    · exact (((endJob _ _ _ _).trans (admission _ _ _)).trans (send _ _ _)).trans (enterOpen _ _)
  all_goals exact send _ _ _

theorem joinEntry (d : Device) (st : Station) (s : Session) (e : PathEntry) : d.Orderly (d.joinEntry st s e) := by
  unfold Device.joinEntry
  dsimp only
  split
  · exact (setPath _ _ _).trans (modSlot _ _ _)
  · exact setPath _ _ _

theorem pathFilled (d : Device) (st : Station) : d.Orderly (d.pathFilled st) :=
  ite ((modCtx d st _).trans (ite (sendPause _ _ _) (refl _))) (refl d)

theorem feedSheet (d : Device) (st : Station) (s : Session) (j : Job) (ordinal : Half) (size colour : Byte) :
    d.Orderly (d.feedSheet st s j ordinal size colour) := by
  refine ite (fault _ _ _ _) ((protocolFaultIf d _ st).trans (ite (quiet rfl le_rfl rfl) ?_))
  exact ((((joinEntry _ _ _ _).trans (modCtx _ _ _)).trans (pathFilled _ _)).trans (modCtx _ _ _)).trans (fundsTrigger _ _)

theorem takeFeed (d : Device) (st : Station) (ordinal : Half) (size colour : Byte) :
    d.Orderly (d.takeFeed st ordinal size colour) := by
  unfold Device.takeFeed
  split
  case h_4 => exact fault _ _ _ _
  all_goals exact feedSheet _ _ _ _ _ _ _

theorem afterExit (d : Device) (st : Station) (before : Nat) : d.Orderly (d.afterExit st before) := by
  unfold Device.afterExit
  split
  · exact refl d
  · refine ite (finishJob _ _ _) (ite (finishJob _ _ _) ?_)
    split
    · exact ite (drain _ _) (refl d)
    · exact ite (ite (finishJob _ _ _) (modCtx _ _ _)) (refl d)
    · exact ite (sendGo _ _) (refl d)
    · exact refl d

theorem takeExit (d : Device) (st : Station) (ordinal : Half) : d.Orderly (d.takeExit st ordinal) := by
  unfold Device.takeExit
  split
  case h_4 => exact outcomeDelivered _ _ _
  case h_5 => exact fault _ _ _ _
  all_goals exact (outcomeDelivered _ _ _).trans (afterExit _ _ _)

theorem markPath (d : Device) (st : Station) (ordinals : List Half) : d.Orderly (d.markPath st ordinals) :=
  (protocolFaultIf _ _ _).trans (setPath _ _ _)

theorem takeJam (d : Device) (st : Station) (ordinals : List Half) : d.Orderly (d.takeJam st ordinals) := by
  unfold Device.takeJam
  split
  case h_4 => exact markPath _ _ _
  case h_5 => exact fault _ _ _ _
  all_goals
    rw [Device.enterJammed_eq]
    exact (markPath _ _ _).of_before rfl le_rfl rfl

theorem leaveJam (d : Device) (st : Station) (resume : Resume) : d.Orderly (d.leaveJam st resume) := by
  unfold Device.leaveJam
  split
  · exact refl d
  · refine ite (finishJob _ _ _) (ite (finishJob _ _ _) ?_)
    cases resume with
    | closing => exact (modCtx _ _ _).trans (ite (drain _ _) (sendPause _ _ _))
    | held => exact ite (finishJob _ _ _) (enterHeld _ _)
    | running => exact ite (finishJob _ _ _) ((modCtx _ _ _).trans (ite (fundsTrigger _ _) (announceRunning _ _)))

theorem takeClear (d : Device) (st : Station) (items : List (Half × Byte)) : d.Orderly (d.takeClear st items) := by
  unfold Device.takeClear
  split
  · refine (protocolFaultIf d (clearItems (d.path st) [] items).2 st).trans ?_
    exact ((foldl _ (fun _ _ => clearEntry _ _ _ _) _ _).trans (setPath _ _ _)).trans (leaveJam _ _ _)
  · exact fault _ _ _ _

theorem setStop (d : Device) (st : Station) : d.Orderly (d.setStop st) := by
  unfold Device.setStop
  split
  · exact (modCtx _ _ _).trans (leaveWaiting _ _ _)
  · exact modCtx _ _ _

theorem takeStop (d : Device) (st : Station) : d.Orderly (d.takeStop st) := by
  unfold Device.takeStop
  split
  · exact refl d
  · refine ite (refl d) ?_
    split
    · exact (setStop d st).trans (ite (finishJob _ _ _) (refl _))
    · exact (setStop d st).trans (ite (finishJob _ _ _) (refl _))
    · exact setStop _ _
    · exact modCtx _ _ _
    · exact refl d

theorem openSession (d : Device) (st : Station) (f : Funding) : d.Orderly (d.openSession st f) := by
  rw [Device.openSession_rest]
  exact quiet rfl le_rfl rfl

theorem takeKeyin (d : Device) (st : Station) (number : Nat) (pin : Half) : d.Orderly (d.takeKeyin st number pin) := by
  unfold Device.takeKeyin
  split
  case h_2 => exact refl d
  case h_3 =>
    refine ite ((credentialCheck d st number pin).trans ?_) (send _ _ _)
    dsimp only
    split
    · exact send _ _ _
    · exact openSession _ _ _
  all_goals exact send _ _ _

theorem takeLogout (d : Device) (st : Station) : d.Orderly (d.takeLogout st) := by
  unfold Device.takeLogout
  split
  case h_1 => exact endSession _ _ _
  case h_2 | h_3 | h_4 => exact modCtx _ _ _
  all_goals exact refl d

theorem takeCard (d : Device) (st : Station) (token : List Byte) : d.Orderly (d.takeCard st token) := by
  unfold Device.takeCard
  split
  case h_2 => exact refl d
  case h_3 =>
    refine ite (ite (send _ _ _) ?_) (send _ _ _)
    split
    · exact quiet rfl le_rfl rfl
    · exact send _ _ _
  all_goals exact send _ _ _

theorem takeCardOut (d : Device) (st : Station) : d.Orderly (d.takeCardOut st) := by
  unfold Device.takeCardOut
  split
  case h_1 => exact (abandonSlot _ _).trans (enterIdle _ _)
  case h_2 => exact ite (endSession _ _ _) (refl d)
  case h_3 | h_4 | h_5 => exact ite (modCtx _ _ _) (refl d)
  all_goals exact refl d

theorem takeService (d : Device) (st : Station) (payload : List Byte) : d.Orderly (d.takeService st payload) := by
  unfold Device.takeService
  split
  · exact refl d
  · exact ite (quiet rfl le_rfl rfl) (fault _ _ _ _)

/-! ### The line of a station and the ends of timers -/

theorem takeCarrierLoss (d : Device) (st : Station) : d.Orderly (d.takeCarrierLoss st) := by
  refine ite (((modPort d st Port.loseCarrier).trans (notice _ .carrier (some st))).trans ?_) (refl d)
  unfold Device.contextCarrierLoss
  split
  · exact refl _
  · exact (teardown _ _ _).trans (modCtx _ _ _)

theorem takeCarrierReturn (d : Device) (st : Station) : d.Orderly (d.takeCarrierReturn st) := by
  refine ite (refl d) (((modPort d st fun p => { p with carrier := true }).trans (notice _ .carrier (some st))).trans ?_)
  unfold Device.contextCarrierReturn
  split
  · exact ite (enterIdle _ _) (modCtx _ _ _)
  · exact refl _

theorem takeJamExpiry (d : Device) (st : Station) : d.Orderly (d.takeJamExpiry st) := by
  refine ite ?_ (refl d)
  unfold Device.abandonJob
  split
  · exact refl d
  · exact (((resolveAll _ _).trans (endJob _ _ _ _)).trans (notice _ _ _)).trans (afterJob _ _ _ _)

theorem takeRenewTimeout (d : Device) (i : SlotNo) : d.Orderly (d.takeRenewTimeout i) := by
  refine ite ?_ (refl d)
  split
  · exact refuseRenewal _ _
  · exact releaseFinal _ _
  · exact releaseFinal _ _
  · exact refl d

theorem takeEnd (d : Device) (e : Expiry) : d.Orderly (d.takeEnd e) := by
  cases e with
  | doze st => exact ite ((send _ _ _).trans (modCtx _ _ _)) (refl d)
  | idle st => exact ite (endSession _ _ _) (refl d)
  | wait st => exact ite (finishJob _ _ _) (refl d)
  | jam st => exact takeJamExpiry _ _
  | auth i => exact ite (((endOutstanding _ _).trans (lapse _ _)).trans (payReport _ _ _)) (refl d)
  | renew i => exact takeRenewTimeout _ _
  | final i => exact ite (endFinal _ _ _) (refl d)
  | lapse i => exact ite (modSlot _ _ _) (refl d)
  | hold i => exact ite (expireSlot _ _) (refl d)

theorem takeTick (d : Device) : d.Orderly d.takeOverdue.tick := by
  have overdue : d.Orderly d.takeOverdue := foldl _ takeEnd _ _
  have counted : d.takeOverdue.Orderly d.takeOverdue.counted := quiet rfl le_rfl rfl
  exact (overdue.trans counted).trans (foldl _ lifetimeTest _ _)

/-! ### Results of payment requests -/

theorem takeAuthResult (d : Device) (slot generation : Byte) (approved : Amount24) (lifetime : Byte)
    (reference : Option Reference) : d.Orderly (d.takeAuthResult slot generation approved lifetime reference) := by
  have stale : ∀ ref, d.Orderly (d.staleApproval ref) := fun _ => ite (notice _ _ _) (quiet rfl le_rfl rfl)
  unfold Device.takeAuthResult
  dsimp only
  split
  · rename_i t matched
    obtain ⟨i, -, taken⟩ := Option.bind_eq_some_iff.mp matched
    unfold Device.authResultAt at taken
    split at taken
    · obtain rfl := Option.some.inj taken
      split
      · exact approveAuth _ _ _ _ _
      · exact declineAuth _ _
    · split at taken
      · obtain rfl := Option.some.inj taken
        split
        · exact voidLate _ _ _
        · exact modSlot _ _ _
      · cases taken
  · unfold Device.staleAuth
    split
    · exact refl d
    · split
      · exact ite (refl d) (stale _)
      · exact stale _

theorem takeRenewResult (d : Device) (slot generation : Byte) (approved : Amount24) (lifetime : Byte) :
    d.Orderly (d.takeRenewResult slot generation approved lifetime) := by
  unfold Device.takeRenewResult
  split
  · exact refl d
  · refine ite ?_ (refl d)
    split
    · exact ite (approveRenewal _ _ _ _) (refuseRenewal _ _)
    · exact releaseFinal _ _
    · exact releaseFinal _ _
    · exact refl d

theorem takeCaptureDone (d : Device) (slot generation outcome : Byte) : d.Orderly (d.takeCaptureDone slot generation outcome) := by
  unfold Device.takeCaptureDone
  split
  · exact refl d
  · exact ite (endFinal _ _ _) (refl d)

theorem takeVoidDone (d : Device) (slot generation : Byte) : d.Orderly (d.takeVoidDone slot generation) := by
  unfold Device.takeVoidDone
  split
  · exact refl d
  · exact ite (endFinal _ _ _) (refl d)

theorem takeTextDown (d : Device) (station : Byte) (text : List Byte) : d.Orderly (d.takeTextDown station text) := by
  unfold Device.takeTextDown
  split
  · exact notice _ _ _
  · exact ite (refl d) (ite (fault _ _ _ _) (modPort _ _ _))

theorem takeMgmt (d : Device) (r : MgmtRequest) : d.Orderly (d.takeMgmt r) := ite (quiet rfl le_rfl rfl) (notice _ _ _)

/-! ### Reports of one block to another -/

theorem takeReport (d : Device) (st : Station) (kind : ReportKind) (f : Device → SlotRef → Device)
    (h : ∀ (d : Device) (ref : SlotRef), d.Orderly (f d ref)) : d.Orderly (d.takeReport st kind f) := by
  unfold Device.takeReport
  split
  · exact refl d
  · exact (h _ _).of_before rfl le_rfl rfl

theorem takeRenewalRefusal (d : Device) (st : Station) (ref : SlotRef) : d.Orderly (d.takeRenewalRefusal st ref) :=
  ite ((modCtx d st _).trans (ite (finishJob _ _ _) (refl _))) (refl d)

theorem refillRunning (d : Device) (st : Station) (answer : RefillReply) : d.Orderly (d.refillRunning st answer) := by
  cases answer with
  | granted draw => exact (sendGo _ _).of_before rfl le_rfl rfl
  | waiting | refused => exact (modCtx _ _ _).trans (enterHeld _ _)

theorem refillQuiet (d : Device) (st : Station) (number : Nat) (answer : RefillReply) :
    d.Orderly (d.refillQuiet st number answer) := by
  cases answer with
  | granted draw => exact quiet rfl le_rfl rfl
  | waiting => exact (modCtx _ _ _).trans (leaveWaiting _ _ _)
  | refused => exact modCtx _ _ _

theorem refillLate (d : Device) (st : Station) (number : Nat) (answer : RefillReply) :
    d.Orderly (d.refillLate st number answer) := by
  cases answer with
  | granted draw => exact handBack _ _ _ _
  | waiting | refused => exact refl d

theorem applyRefill (d : Device) (st : Station) (number : Nat) (answer : RefillReply) :
    d.Orderly (d.applyRefill st number answer) := by
  unfold Device.applyRefill
  split
  · exact refillLate _ _ _ _
  · refine ite (refillLate _ _ _ _) (ite (refillQuiet _ _ _ _) ?_)
    split
    · exact refillRunning _ _ _
    · cases answer <;> exact quiet rfl le_rfl rfl
    · exact refillQuiet _ _ _ _

theorem takeRefillAnswer (d : Device) (st : Station) : d.Orderly (d.takeRefillAnswer st) := by
  unfold Device.takeRefillAnswer
  split
  · exact (modCtx _ _ _).trans (applyRefill _ _ _ _)
  · exact (modCtx _ _ _).trans (refillLate _ _ _ _)
  · exact refl d

theorem takeGrant (d : Device) (st : Station) : d.Orderly (d.takeGrant st) := by
  unfold Device.takeGrant
  split
  · exact (modCtx d st _).trans (ite ((modCtx _ _ _).trans (fundsArrived _ _)) (handBack _ _ _ _))
  · exact refl d

theorem takeCloseReport (d : Device) (st : Station) : d.Orderly (d.takeCloseReport st) := by
  unfold Device.takeCloseReport
  split
  · exact (modCtx d st _).trans (ite (loseFunding _ _ _) (refl _))
  · exact refl d

theorem takeRetry (d : Device) (st : Station) : d.Orderly (d.takeRetry st) := by
  refine ite ((modCtx d st fun c => { c with roomTold := false }).trans ?_) (refl d)
  unfold Device.offerAgain
  split
  · exact ite (closeOut _ _ _) (refl _)
  · exact refl _

/-! ### The uplink's line -/

theorem takeUplinkReturn (d : Device) : d.Orderly d.takeUplinkReturn := by
  refine ite (refl d) (((modUplink d fun u => { u with carrier := true }).trans (notice _ .carrier none)).trans ?_)
  unfold Device.dropFallen
  split
  · exact ite (refl _) (modUplink _ _)
  · exact refl _

/-- R111: the head of the payment request queue is sent only below the limit; a stale VOID is no request of a slot (R114). -/
theorem choosePayment {d : Device} (ready : d.ready .payment = true) : d.Orderly d.choosePayment := by
  unfold Device.choosePayment
  split
  · exact quiet rfl le_rfl rfl
  · rename_i stale queue
    have below : d.outstanding < d.mgmt.params.outstandingLimit := by simpa [Device.ready, Device.requestReady, stale, queue] using ready
    exact ⟨fun _ => below, id, id⟩
  · exact refl d

theorem choose {d : Device} {source : Source} (ready : d.ready source = true) : d.Orderly (d.choose source) := by
  cases source with
  | payment => exact choosePayment ready
  | notice => exact quiet rfl le_rfl rfl
  | reply | sessionReport | serviceUp | billing =>
    unfold Device.choose
    dsimp only
    split
    · exact modUplink _ _
    · exact refl d

theorem arbitrate (d : Device) : d.Orderly d.arbitrate := by
  refine ite ?_ (refl d)
  split
  · rename_i source found
    exact choose (List.find?_some found)
  · exact refl d

/-- R168, R190: the power-on state has the three laws. -/
theorem powerOn (d : Device) (pins : Vector Bool 16) (up : Bool) (n : Nat) : d.Orderly (Device.powerOn pins up n) :=
  ⟨fun _ => Nat.zero_le _, fun _ => List.Pairwise.nil, fun _ _ member => nomatch member⟩

theorem exportFrameSent (d : Device) : d.Orderly d.exportFrameSent := by
  unfold Device.exportFrameSent
  split
  · rename_i number _ _
    exact (modFields d number fun a => { a with closedRecord := .zero }).trans (quiet rfl le_rfl rfl)
  · exact quiet rfl le_rfl rfl
  · exact refl d

theorem takeUplinkSent (d : Device) : d.Orderly d.takeUplinkSent := by
  unfold Device.takeUplinkSent
  split
  · rename_i source _ _
    refine ite ((modUplink d fun u => { u with transmitter := .free }).trans ?_) (refl d)
    cases source with
    | reply => exact ite (powerOn _ _ _ _) (quiet rfl le_rfl rfl)
    | payment | notice => exact refl _
    | sessionReport | serviceUp => exact quiet rfl le_rfl rfl
    | billing => exact exportFrameSent _
  · exact refl d

/-! ### Management requests -/

/-- R82, R101: an entry whose number is new joins the table in its place. -/
theorem insertAccount (d : Device) (a : Account) (fresh : d.account a.number = none) (waiting : a.waiting = []) :
    d.Orderly { d with accounts := Sys2Proof.Machine.insertAccount a d.accounts } := by
  have absent : ∀ b ∈ d.accounts, b.number ≠ a.number := by
    simpa [Device.account, findAccount] using fresh
  refine ⟨id, insertAccount_inOrder absent, fun apart b member => ?_⟩
  obtain rfl | found := mem_insertAccount.mp member
  · rw [waiting]
    exact List.nodup_nil
  · exact apart b found

theorem insertPut (d : Device) (o : AccountOrder) (fresh : d.account o.number = none) : d.Orderly (d.insertPut o).device := by
  unfold Device.insertPut
  split
  · exact refl d
  · split
    · exact refl d
    · split
      · exact refl d
      · exact insertAccount d (o.entry _) fresh rfl

theorem updatePut (d : Device) (o : AccountOrder) (a : Account) : d.Orderly (d.updatePut o a).device := by
  unfold Device.updatePut
  split
  · exact refl d
  · split
    · exact refl d
    · split
      · exact refl d
      · exact (modFields _ _ _).trans (serveIf _ _ _)

theorem accountPut (d : Device) (r : MgmtRequest) : d.Orderly (d.answerAccountPut r).device := by
  unfold Device.answerAccountPut
  split
  · exact refl d
  · split
    · rename_i fresh
      exact insertPut d _ fresh
    · exact updatePut _ _ _

theorem accountDelete (d : Device) (r : MgmtRequest) : d.Orderly (d.answerAccountDelete r).device := by
  unfold Device.answerAccountDelete
  split
  · exact refl d
  · split
    · exact refl d
    · exact ⟨id, fun order => order.sublist (List.filter_sublist.map _), fun apart a member => apart a (List.mem_of_mem_filter member)⟩

theorem stopAccount (d : Device) (a : Account) : d.Orderly (d.stopAccount a).device := by
  unfold Device.stopAccount
  split
  · exact modFields _ _ _
  · exact refl d
  · exact refl d

theorem startAccount (d : Device) (a : Account) : d.Orderly (d.startAccount a).device := by
  unfold Device.startAccount
  split
  · exact modFields _ _ _
  · exact (modFields _ _ _).trans (serve _ _)
  · exact refl d

theorem closeAccount (d : Device) (a : Account) : d.Orderly (d.closeAccount a).device := by
  have emptied := modAccount d a.number (fun a => { a with state := .closed, waiting := [] }) (fun _ => rfl)
    fun _ _ _ => List.nodup_nil
  unfold Device.closeAccount
  split
  case h_1 => exact refl d
  all_goals
    rw [Device.device_answerSummary]
    exact emptied.trans (mailClosed _ _)

theorem accountState (d : Device) (r : MgmtRequest) : d.Orderly (d.answerAccountState r).device := by
  unfold Device.answerAccountState
  split
  · exact refl d
  · split
    · exact refl d
    · split
      · exact stopAccount _ _
      · exact startAccount _ _
      · exact closeAccount _ _

theorem accountCredit (d : Device) (r : MgmtRequest) : d.Orderly (d.answerAccountCredit r).device := by
  unfold Device.answerAccountCredit
  dsimp only
  split
  · exact refl d
  · split
    · exact refl d
    · exact (modFields _ _ _).trans (serveIf _ _ _)

/-- R112, R180: the outstanding limit is not set below the outstanding count. -/
theorem setParam (d : Device) (code : Byte) (name : ParamName) (v : Nat) : d.Orderly (d.setParam code name v).device := by
  unfold Device.setParam
  split
  · exact refl d
  · split
    · exact refl d
    · rename_i standing
      refine ⟨fun limit => ?_, id, id⟩
      cases name with
      | outstandingLimit => exact Nat.le_of_not_lt fun below => standing ⟨rfl, below⟩
      | _ => exact limit

theorem configSet (d : Device) (r : MgmtRequest) : d.Orderly (d.answerConfigSet r).device := by
  unfold Device.answerConfigSet
  dsimp only
  split
  · exact refl d
  · exact setParam _ _ _ _

/-- An answer about the station that a request names, or BAD_VALUE. -/
theorem answerStation (d : Device) (r : MgmtRequest) {f : Station → Answer} (h : ∀ st, d.Orderly (f st).device) :
    d.Orderly (d.answerStation r f).device := by
  unfold Device.answerStation
  split
  · exact h _
  · exact refl d

theorem serviceOff (d : Device) (st : Station) : d.Orderly (d.serviceOff st) := by
  unfold Device.serviceOff
  refine (modConfig d st fun c => { c with inService := false }).trans ?_
  dsimp only
  split
  · exact refl _
  · exact (teardown _ _ _).trans (modCtx _ _ _)

theorem serviceOn (d : Device) (st : Station) : d.Orderly (d.serviceOn st) := by
  unfold Device.serviceOn
  refine (modConfig d st fun c => { c with inService := true }).trans ?_
  dsimp only
  split
  · exact ite (enterIdle _ _) (refl _)
  · exact refl _

theorem stationService (d : Device) (r : MgmtRequest) : d.Orderly (d.answerStationService r).device :=
  answerStation d r fun st => by
    dsimp only
    split
    · exact serviceOff _ _
    · split
      · exact serviceOn _ _
      · exact refl d

theorem resetStation (d : Device) (st : Station) : d.Orderly (d.resetStation st) := by
  have settle : ∀ d : Device, d.Orderly (d.settle st) := fun _ => ite (ite (enterIdle _ _) (modCtx _ _ _)) (modCtx _ _ _)
  unfold Device.resetStation
  split
  · exact (send _ _ _).trans (settle _)
  · exact (teardown _ _ _).trans (settle _)

/-- R135: a turned entry keeps its number and its waiting list. -/
theorem closePeriod (d : Device) : d.Orderly d.closePeriod := by
  refine ⟨id, fun order => ?_, fun apart a member => ?_⟩
  · simpa [Device.InOrder, Device.closePeriod, Device.walkStep, Function.comp_def, Account.turnPeriod] using order
  · obtain ⟨b, found, rfl⟩ := List.mem_map.mp member
    exact apart b found

theorem accountGet (d : Device) (r : MgmtRequest) : d.Orderly (d.answerAccountGet r).device := by
  unfold Device.answerAccountGet
  dsimp only
  split
  · exact refl d
  · split
    · exact refl d
    · split <;> exact refl d

theorem tariffLoad (d : Device) (r : MgmtRequest) : d.Orderly (d.answerTariffLoad r).device := by
  unfold Device.answerTariffLoad
  split
  · exact refl d
  · split
    · exact refl d
    · exact quiet rfl le_rfl rfl

theorem tariffSelect (d : Device) (r : MgmtRequest) : d.Orderly (d.answerTariffSelect r).device := by
  unfold Device.answerTariffSelect
  split
  · exact refl d
  · split
    · exact quiet rfl le_rfl rfl
    · exact refl d

theorem stationGet (d : Device) (r : MgmtRequest) : d.Orderly (d.answerStationGet r).device :=
  answerStation d r fun _ => by split <;> exact refl d

theorem stationConfig (d : Device) (r : MgmtRequest) : d.Orderly (d.answerStationConfig r).device :=
  answerStation d r fun _ => by
    split
    · exact modConfig _ _ _
    · exact refl d

theorem holdGet (d : Device) (r : MgmtRequest) : d.Orderly (d.answerHoldGet r).device := by
  unfold Device.answerHoldGet
  split <;> exact refl d

theorem periodClose (d : Device) (r : MgmtRequest) : d.Orderly (d.answerPeriodClose r).device := by
  unfold Device.answerPeriodClose
  split
  · exact refl d
  · exact closePeriod d

theorem noticeEnable (d : Device) (r : MgmtRequest) : d.Orderly (d.answerNoticeEnable r).device := by
  unfold Device.answerNoticeEnable
  split <;> exact quiet rfl le_rfl rfl

theorem noticeClear (d : Device) (r : MgmtRequest) : d.Orderly (d.answerNoticeClear r).device := by
  unfold Device.answerNoticeClear
  split <;> exact quiet rfl le_rfl rfl

/-- R173: what the owner of a request does is between the taking of the request and its reply. -/
theorem takeRequest (accepts : Byte → Bool) {owner : Device → MgmtRequest → Answer}
    (h : ∀ (d : Device) (r : MgmtRequest), d.Orderly (owner d r).device) (d : Device) :
    d.Orderly (d.takeRequest accepts owner) := by
  unfold Device.takeRequest
  split
  · exact refl d
  · rename_i r rest _
    refine ite (of_before (t := d.taken rest) ?_ rfl le_rfl rfl) (refl d)
    unfold Device.answerRequest
    split
    · exact quiet rfl le_rfl rfl
    · exact (h _ _).trans (quiet rfl le_rfl rfl)

/-! ### The guards and the presentation -/

theorem running {f : Device → Device} (h : ∀ d : Device, d.Orderly (f d)) (d : Device) : d.Orderly (d.running f) :=
  ite (refl d) (h d)

theorem receiveStation (st : Station) {f : Device → Device} (h : ∀ d : Device, d.Orderly (f d)) (d : Device) :
    d.Orderly (d.receiveStation st f) :=
  running (fun d => ite (((modPort d st _).trans (h _)).trans (modPort _ st _)) (refl d)) d

theorem stationFrame (st : Station) (w : Option WakeClass) {f : Device → Device} (h : ∀ d : Device, d.Orderly (f d)) (d : Device) :
    d.Orderly (d.stationFrame st w f) := by
  refine receiveStation st (fun d => ?_) d
  unfold Device.present
  split
  · exact (modCtx _ _ _).trans (h _)
  · exact (modCtx _ _ _).trans (h _)
  · split
    · exact fault _ _ _ _
    · exact ite (((send _ _ _).trans (enterIdle _ _)).trans (h _)) (notice _ _ _)
  · exact h d

theorem badStationFrame (st : Station) (d : Device) : d.Orderly (d.badStationFrame st) :=
  receiveStation st (fun d => fault d _ _ _) d

theorem receiveUplink {f : Device → Device} (h : ∀ d : Device, d.Orderly (f d)) (d : Device) : d.Orderly (d.receiveUplink f) :=
  running (f := fun d => if d.uplink.receives then f d.heardUplink else d)
    (fun d => ite ((h d.heardUplink).of_before rfl le_rfl rfl) (refl d)) d

theorem badUplinkFrame (d : Device) : d.Orderly d.badUplinkFrame := receiveUplink (fun d => notice d _ _) d

/-- A change of the carrier-detect inputs, and the part's taking of it unless RESET is asserted (R168). -/
theorem detect {f : Device → Device} (pins : Device → Vector Bool 16) (uplink : Device → Bool) (h : ∀ d : Device, d.Orderly (f d))
    (d : Device) : d.Orderly ({ d with carrierDetect := pins d, uplinkDetect := uplink d }.running f) :=
  (running h _).of_before rfl le_rfl rfl

theorem report (st : Station) (kind : ReportKind) {f : Device → SlotRef → Device}
    (h : ∀ (d : Device) (ref : SlotRef), d.Orderly (f d ref)) (d : Device) :
    d.Orderly (d.running fun d => d.takeReport st kind f) :=
  running (fun d => takeReport d st kind f h) d

theorem request {kind : Byte} {owner : Device → MgmtRequest → Answer}
    (h : ∀ (d : Device) (r : MgmtRequest), d.Orderly (owner d r).device) (d : Device) :
    d.Orderly (d.running fun d => d.takeRequest (fun k => k == kind) owner) :=
  running (takeRequest _ h) d

end Device.Orderly

/-! ### Every command -/

open Device.Orderly in
/-- Every command is one orderly operation on the part: one line for each row of the table. -/
theorem exec_orderly (i : Instr) : ∃ f, (∀ d : Device, d.Orderly (f d)) ∧ ∀ s, exec i s = s.onDevice f := by
  cases i with
  | start st => exact ⟨_, stationFrame st _ fun d => takeStart d st _, fun _ => rfl⟩
  | feed st => exact ⟨_, stationFrame st _ fun d => takeFeed d st _ _ _, fun _ => rfl⟩
  | exit st => exact ⟨_, stationFrame st _ fun d => takeExit d st _, fun _ => rfl⟩
  | jam st => exact ⟨_, fun d => ite (badStationFrame st d) (stationFrame st _ (fun d => takeJam d st _) d), fun _ => rfl⟩
  | clear st => exact ⟨_, fun d => ite (badStationFrame st d) (stationFrame st _ (fun d => takeClear d st _) d), fun _ => rfl⟩
  | stop st => exact ⟨_, stationFrame st _ fun d => takeStop d st, fun _ => rfl⟩
  | keyin st => exact ⟨_, stationFrame st _ fun d => takeKeyin d st _ _, fun _ => rfl⟩
  | logout st => exact ⟨_, stationFrame st _ fun d => takeLogout d st, fun _ => rfl⟩
  | service st => exact ⟨_, fun d => ite (stationFrame st _ (fun d => takeService d st _) d) (badStationFrame st d), fun _ => rfl⟩
  | card st => exact ⟨_, fun d => ite (stationFrame st _ (fun d => takeCard d st _) d) (badStationFrame st d), fun _ => rfl⟩
  | cardOut st => exact ⟨_, stationFrame st _ fun d => takeCardOut d st, fun _ => rfl⟩
  | stationBadFrame st => exact ⟨_, badStationFrame st, fun _ => rfl⟩
  | stationUnroutedFrame st =>
    exact ⟨_, fun d => ite (refl d) (stationFrame st _ (fun d => fault d st _ _) d), fun _ => rfl⟩
  | stationCarrierLoss st =>
    exact ⟨_, detect (·.carrierDetect.set st false) (·.uplinkDetect) fun d => takeCarrierLoss d st, fun _ => rfl⟩
  | stationCarrierReturn st =>
    exact ⟨_, detect (·.carrierDetect.set st true) (·.uplinkDetect) fun d => takeCarrierReturn d st, fun _ => rfl⟩
  | stationStartDelimiter st => exact ⟨_, running fun d => modPort d st _, fun _ => rfl⟩
  | stationTransmitStart st => exact ⟨_, running fun d => modPort d st _, fun _ => rfl⟩
  | stationFrameSent st => exact ⟨_, running fun d => modPort d st _, fun _ => rfl⟩
  | dozeTimerExpiry st => exact ⟨_, running fun d => takeEnd d (.doze st), fun _ => rfl⟩
  | idleTimerExpiry st => exact ⟨_, running fun d => takeEnd d (.idle st), fun _ => rfl⟩
  | waitTimerExpiry st => exact ⟨_, running fun d => takeEnd d (.wait st), fun _ => rfl⟩
  | jamTimerExpiry st => exact ⟨_, running fun d => takeEnd d (.jam st), fun _ => rfl⟩
  | authResult => exact ⟨_, receiveUplink fun d => takeAuthResult d _ _ _ _ _, fun _ => rfl⟩
  | renewResult => exact ⟨_, receiveUplink fun d => takeRenewResult d _ _ _ _, fun _ => rfl⟩
  | captureDone => exact ⟨_, receiveUplink fun d => takeCaptureDone d _ _ _, fun _ => rfl⟩
  | voidDone => exact ⟨_, receiveUplink fun d => takeVoidDone d _ _, fun _ => rfl⟩
  | textDown => exact ⟨_, fun d => ite (receiveUplink (fun d => takeTextDown d _ _) d) (badUplinkFrame d), fun _ => rfl⟩
  | mgmt =>
    exact ⟨_, fun d => ite (receiveUplink (fun d => takeMgmt d _) d) (badUplinkFrame d), fun _ => rfl⟩
  | uplinkBadFrame => exact ⟨_, badUplinkFrame, fun _ => rfl⟩
  | uplinkUnroutedFrame =>
    exact ⟨_, fun d => ite (refl d) (receiveUplink (fun d => notice d .protocol none) d), fun _ => rfl⟩
  | uplinkStartDelimiter => exact ⟨_, running fun d => modUplink d _, fun _ => rfl⟩
  | uplinkCarrierLoss =>
    exact ⟨_, detect (·.carrierDetect) (fun _ => false) fun d => ite ((modUplink d _).trans (notice _ _ _)) (refl d), fun _ => rfl⟩
  | uplinkCarrierReturn => exact ⟨_, detect (·.carrierDetect) (fun _ => true) takeUplinkReturn, fun _ => rfl⟩
  | arbiterChoice => exact ⟨_, running arbitrate, fun _ => rfl⟩
  | uplinkFrameSent => exact ⟨_, running takeUplinkSent, fun _ => rfl⟩
  | authTimeout i => exact ⟨_, running fun d => takeEnd d (.auth i), fun _ => rfl⟩
  | renewTimeout i => exact ⟨_, running fun d => takeEnd d (.renew i), fun _ => rfl⟩
  | finalRequestTimeout i => exact ⟨_, running fun d => takeEnd d (.final i), fun _ => rfl⟩
  | lapseTimerExpiry i => exact ⟨_, running fun d => takeEnd d (.lapse i), fun _ => rfl⟩
  | holdExpiry i => exact ⟨_, running fun d => takeEnd d (.hold i), fun _ => rfl⟩
  | timebaseTick => exact ⟨_, running takeTick, fun _ => rfl⟩
  | authApprovalReport st =>
    exact ⟨_, report st _ fun d _ => ite ((send _ _ _).trans (openSession _ _ _)) (refl d), fun _ => rfl⟩
  | authDeclineReport st => exact ⟨_, report st _ fun d _ => ite ((send _ _ _).trans (enterIdle _ _)) (refl d), fun _ => rfl⟩
  | authTimeoutReport st => exact ⟨_, report st _ fun d _ => ite ((send _ _ _).trans (enterIdle _ _)) (refl d), fun _ => rfl⟩
  | holdExpiryReport st => exact ⟨_, report st _ fun d _ => ite (loseFunding d st _) (refl d), fun _ => rfl⟩
  | renewalApprovalReport st => exact ⟨_, report st _ fun d _ => ite (fundsArrived d st) (refl d), fun _ => rfl⟩
  | renewalRefusalReport st => exact ⟨_, report st _ fun d ref => takeRenewalRefusal d st ref, fun _ => rfl⟩
  | accountRefill st => exact ⟨_, running fun d => takeRefill d st, fun _ => rfl⟩
  | refillAnswer st => exact ⟨_, running fun d => takeRefillAnswer d st, fun _ => rfl⟩
  | waitingListGrant st => exact ⟨_, running fun d => takeGrant d st, fun _ => rfl⟩
  | accountCloseReport st => exact ⟨_, running fun d => takeCloseReport d st, fun _ => rfl⟩
  | reportOfferRetry st => exact ⟨_, running fun d => takeRetry d st, fun _ => rfl⟩
  | accountPut => exact ⟨_, request accountPut, fun _ => rfl⟩
  | accountDelete => exact ⟨_, request accountDelete, fun _ => rfl⟩
  | accountGet => exact ⟨_, request accountGet, fun _ => rfl⟩
  | accountState => exact ⟨_, request accountState, fun _ => rfl⟩
  | accountCredit => exact ⟨_, request accountCredit, fun _ => rfl⟩
  | tariffLoad => exact ⟨_, request tariffLoad, fun _ => rfl⟩
  | tariffSelect => exact ⟨_, request tariffSelect, fun _ => rfl⟩
  | configSet => exact ⟨_, request configSet, fun _ => rfl⟩
  | configGet => exact ⟨_, request fun d _ => .refl d, fun _ => rfl⟩
  | stationGet => exact ⟨_, request stationGet, fun _ => rfl⟩
  | stationConfig => exact ⟨_, request stationConfig, fun _ => rfl⟩
  | stationService => exact ⟨_, request stationService, fun _ => rfl⟩
  | stationReset => exact ⟨_, request fun d r => answerStation d r (resetStation d), fun _ => rfl⟩
  | stationWake =>
    exact ⟨_, request fun d r => answerStation d r fun _ => ite ((send _ _ _).trans (enterIdle _ _)) (refl d), fun _ => rfl⟩
  | stationClear => exact ⟨_, request fun d r => answerStation d r fun st => modCtx d st _, fun _ => rfl⟩
  | holdGet => exact ⟨_, request holdGet, fun _ => rfl⟩
  | periodClose => exact ⟨_, request periodClose, fun _ => rfl⟩
  | noticeEnable => exact ⟨_, request noticeEnable, fun _ => rfl⟩
  | noticeClear => exact ⟨_, request noticeClear, fun _ => rfl⟩
  | restart => exact ⟨_, request fun _ _ => quiet rfl le_rfl rfl, fun _ => rfl⟩
  | unknownRequest => exact ⟨_, running (takeRequest _ fun d _ => .refl d), fun _ => rfl⟩
  | resetAsserted => exact ⟨Device.assertReset, fun _ => quiet rfl le_rfl rfl, fun _ => rfl⟩
  | resetReleased => exact ⟨Device.releaseReset, fun d => ite (powerOn d _ _ _) (refl d), fun _ => rfl⟩

/-- Every step is orderly: an idle one changes nothing, and any other is a command's operation on the part. -/
theorem step_orderly {s t : State} (h : step s = .next t) : s.toDevice.Orderly t.toDevice := by
  unfold step at h
  split at h
  · obtain rfl := Host.Outcome.next.inj h
    exact .refl _
  · rename_i c rest _
    obtain ⟨f, orderly, acts⟩ := exec_orderly c
    rw [acts, State.onDevice_eq] at h
    obtain rfl := Host.Outcome.next.inj h
    exact orderly s.toDevice

/-- Settles O59: each of the three laws is one that an orderly step keeps. -/
theorem everyStepKeepsOrderAndLimit : Obligations.EveryStepKeepsOrderAndLimit :=
  ⟨fun _ _ limit h => (step_orderly h).limit limit, fun _ _ order h => (step_orderly h).order order,
    fun _ _ apart h => (step_orderly h).apart apart⟩

end Sys2Proof.Machine
end

section
/-! PROOF. Requests that fail a check, and requests that read (O45): the three checks of R178 on the twenty kinds of R206, and the
answers of CONFIG_GET (R182), STATION_GET (R183 to R186), HOLD_GET (R131) and ACCOUNT_GET (R105). -/

namespace Sys2Proof.Machine

/-! ### The checks (R178) -/

section
variable {r : MgmtRequest} {n : Nat}

theorem requestFault_of_unknown (undefined : paramLength r.kind = none) : requestFault r = some .unknown := by
  rw [requestFault, undefined]

theorem requestFault_of_length (length : paramLength r.kind = some n) (other : r.params.length ≠ n) :
    requestFault r = some .badValue := by
  rw [requestFault, length]
  exact if_pos other

theorem requestFault_of_station (length : paramLength r.kind = some n) (good : r.params.length = n)
    (names : namesStation r.kind = true) {number : Byte} {more : List Byte} (params : r.params = number :: more)
    (high : 15 < number.toNat) : requestFault r = some .badValue := by
  have nobody : readStation number = none := dif_neg (by omega)
  rw [params] at good
  simp [requestFault, length, good, names, params, nobody]

end

/-- R178, R206: only the twenty kinds have a parameter length. -/
theorem paramLength_eq_none {kind : Byte} (h : kind ∉ [0x01#8, 0x02#8, 0x03#8, 0x04#8, 0x05#8, 0x08#8, 0x09#8, 0x0C#8, 0x0D#8, 0x10#8,
    0x11#8, 0x12#8, 0x13#8, 0x14#8, 0x15#8, 0x18#8, 0x1C#8, 0x1E#8, 0x1F#8, 0x7F#8]) : paramLength kind = none := by
  simp only [List.mem_cons, List.not_mem_nil, or_false, not_or] at h
  simp [paramLength, h]

/-- A command takes requests of one kind, which have `n` bytes of parameters (R206). -/
def Asks (c : Instr × Byte × Nat) : Prop :=
  (∃ owner, ∀ s, exec c.1 s = s.onRequest c.2.1 owner) ∧ paramLength c.2.1 = some c.2.2

/-- The twenty rows of R206. -/
theorem asks_of_mem : ∀ c ∈ [(Instr.accountPut, 0x01#8, 13), (.accountDelete, 0x02#8, 3), (.accountGet, 0x03#8, 4),
    (.accountState, 0x04#8, 4), (.accountCredit, 0x05#8, 6), (.tariffLoad, 0x08#8, 17), (.tariffSelect, 0x09#8, 1),
    (.configSet, 0x0C#8, 3), (.configGet, 0x0D#8, 0), (.stationGet, 0x10#8, 2), (.stationConfig, 0x11#8, 4),
    (.stationService, 0x12#8, 2), (.stationReset, 0x13#8, 1), (.stationWake, 0x14#8, 1), (.stationClear, 0x15#8, 1),
    (.holdGet, 0x18#8, 1), (.periodClose, 0x1C#8, 0), (.noticeEnable, 0x1E#8, 2), (.noticeClear, 0x1F#8, 2), (.restart, 0x7F#8, 0)],
    Asks c := by
  simp only [List.forall_mem_cons]
  exact ⟨⟨⟨_, fun _ => rfl⟩, rfl⟩, ⟨⟨_, fun _ => rfl⟩, rfl⟩, ⟨⟨_, fun _ => rfl⟩, rfl⟩, ⟨⟨_, fun _ => rfl⟩, rfl⟩,
    ⟨⟨_, fun _ => rfl⟩, rfl⟩, ⟨⟨_, fun _ => rfl⟩, rfl⟩, ⟨⟨_, fun _ => rfl⟩, rfl⟩, ⟨⟨_, fun _ => rfl⟩, rfl⟩,
    ⟨⟨_, fun _ => rfl⟩, rfl⟩, ⟨⟨_, fun _ => rfl⟩, rfl⟩, ⟨⟨_, fun _ => rfl⟩, rfl⟩, ⟨⟨_, fun _ => rfl⟩, rfl⟩,
    ⟨⟨_, fun _ => rfl⟩, rfl⟩, ⟨⟨_, fun _ => rfl⟩, rfl⟩, ⟨⟨_, fun _ => rfl⟩, rfl⟩, ⟨⟨_, fun _ => rfl⟩, rfl⟩,
    ⟨⟨_, fun _ => rfl⟩, rfl⟩, ⟨⟨_, fun _ => rfl⟩, rfl⟩, ⟨⟨_, fun _ => rfl⟩, rfl⟩, ⟨⟨_, fun _ => rfl⟩, rfl⟩, nofun⟩

/-- R178: the six rows whose first parameter is a station number. -/
theorem asks_of_station : ∀ c ∈ [(Instr.stationGet, 0x10#8, 2), (.stationConfig, 0x11#8, 4), (.stationService, 0x12#8, 2),
    (.stationReset, 0x13#8, 1), (.stationWake, 0x14#8, 1), (.stationClear, 0x15#8, 1)], Asks c ∧ namesStation c.2.1 = true := by
  intro c member
  refine ⟨asks_of_mem c ?_, ?_⟩
  · refine List.Sublist.subset ?_ member
    decide
  · revert c
    decide

section
variable {d : Device} (q : List Instr) {r : MgmtRequest} {rest : List MgmtRequest}

/-- R178: a request that fails a check is refused before its owner sees it, with nothing else changed. -/
theorem exec_of_fault {c : Instr × Byte × Nat} (asks : Asks c) (h : d.Takes r rest) (kind : r.kind = c.2.1) {status : Status}
    (bad : requestFault r = some status) : exec c.1 ⟨d, q⟩ = .next ⟨(d.taken rest).reply r.tag status .none, q⟩ := by
  obtain ⟨⟨owner, acts⟩, -⟩ := asks
  cases r
  obtain rfl := kind
  exact (acts _).trans (State.onRequest_of_fault q owner h bad)

/-- R178: a request of a kind that is not one of the twenty is answered UNKNOWN. -/
theorem exec_unknownRequest (h : d.Takes r rest) (undefined : paramLength r.kind = none) :
    exec .unknownRequest ⟨d, q⟩ = .next ⟨(d.taken rest).reply r.tag .unknown .none, q⟩ := by
  refine (State.onDevice_running d q _ h.works).trans ?_
  rw [d.takeRequest_of_fault r rest _ _ .unknown h (by simp [undefined]) (requestFault_of_unknown undefined)]

end

/-! ### The readings -/

theorem readSlot_eq_some {b : Byte} {i : SlotNo} (h : b.toNat = i.val) : readSlot b = some i := by
  have bound := i.isLt
  simp [readSlot, h]

theorem readSlot_eq_none {b : Byte} (high : 31 < b.toNat) : readSlot b = none := dif_neg (by omega)

section
variable {d : Device} (q : List Instr) {tag : Half} {kind : Byte} {params : List Byte} {rest : List MgmtRequest}

/-- R173: a request that passes the checks leaves what its owner answers. -/
theorem State.onRequest_of_answer (owner : Device → MgmtRequest → Answer)
    (h : d.Takes { tag := tag, kind := kind, params := params } rest)
    (good : requestFault { tag := tag, kind := kind, params := params } = none) {t : Device} {status : Status} {data : ReplyData}
    (answer : owner (d.taken rest) { tag := tag, kind := kind, params := params } =
      { device := t, status := status, data := data }) :
    State.onRequest ⟨d, q⟩ kind owner = .next ⟨t.reply tag status data, q⟩ := by
  rw [State.onRequest_of_takes q owner h good, answer]

/-- R183: STATION_GET answers with the view that the code names, or BAD_VALUE. -/
theorem exec_stationGet {st : Station} {code : Byte}
    (h : d.Takes { tag := tag, kind := 0x10#8, params := [BitVec.ofNat 8 st.val, code] } rest) :
    (∀ data, d.view st code = some data → exec .stationGet ⟨d, q⟩ = .next ⟨(d.taken rest).reply tag .ok data, q⟩) ∧
    (d.view st code = none → exec .stationGet ⟨d, q⟩ = .next ⟨(d.taken rest).reply tag .badValue .none, q⟩) := by
  have answered := exec_answerStation q Device.answerStationGet _ (readStation_ofNat st) rfl h rfl
  refine ⟨fun data shown => answered.trans ?_, fun none => answered.trans ?_⟩
  · have shown : (d.taken rest).view st code = some data := shown
    simp [shown, Device.refuse]
  · have none : (d.taken rest).view st code = Option.none := none
    simp [none, Device.refuse]

/-- R183: the view codes are 0 to 4. -/
theorem Device.view_of_high {code : Byte} (st : Station) (high : 4 < code.toNat) : d.view st code = none := by
  have other : ∀ k : Byte, k.toNat ≤ 4 → code ≠ k := by
    rintro k low rfl
    omega
  simp [Device.view, other 0#8, other 1#8, other 2#8, other 3#8, other 4#8]

/-- R131: HOLD_GET answers with the slot that the number names, or BAD_VALUE. -/
theorem exec_holdGet {slot : Byte} (h : d.Takes { tag := tag, kind := 0x18#8, params := [slot] } rest) :
    (∀ i, readSlot slot = some i → exec .holdGet ⟨d, q⟩ = .next ⟨(d.taken rest).reply tag .ok (.hold (d.holdView i)), q⟩) ∧
    (readSlot slot = none → exec .holdGet ⟨d, q⟩ = .next ⟨(d.taken rest).reply tag .badValue .none, q⟩) := by
  refine ⟨fun i named => ?_, fun unnamed => ?_⟩ <;>
    refine State.onRequest_of_answer q Device.answerHoldGet h rfl ?_
  · simp only [Device.answerHoldGet, List.getD_cons_zero, named]
    rfl
  · simp only [Device.answerHoldGet, List.getD_cons_zero, unnamed]
    rfl

/-- R105: the part codes are 0 to 2. -/
theorem Device.answerAccountGet_of_high {r : MgmtRequest} (high : 2 < (r.params.getD 3 0#8).toNat) :
    d.answerAccountGet r = d.refuse .badValue .none := if_pos high

theorem Device.answerAccountGet_of_unknown {r : MgmtRequest} (low : (r.params.getD 3 0#8).toNat ≤ 2)
    (unknown : d.account r.number = none) : d.answerAccountGet r = d.refuse .notFound .none := by
  simp only [Device.answerAccountGet, if_neg (Nat.not_lt.mpr low), unknown]

theorem Device.answerAccountGet_of_named {r : MgmtRequest} {a : Account} {data : ReplyData} (low : (r.params.getD 3 0#8).toNat ≤ 2)
    (known : d.account r.number = some a) (named : a.part (r.params.getD 3 0#8) = some data) :
    d.answerAccountGet r = d.refuse .ok data := by
  simp only [Device.answerAccountGet, if_neg (Nat.not_lt.mpr low), known, named]

/-- R105: ACCOUNT_GET tests the part code, then looks the number up, then answers with the part named. -/
theorem exec_accountGet {b2 b1 b0 part : Byte}
    (h : d.Takes { tag := tag, kind := 0x03#8, params := [b2, b1, b0, part] } rest) :
    (2 < part.toNat → exec .accountGet ⟨d, q⟩ = .next ⟨(d.taken rest).reply tag .badValue .none, q⟩) ∧
    (part.toNat ≤ 2 → d.account (b2 ++ b1 ++ b0 : Amount24).toNat = none →
      exec .accountGet ⟨d, q⟩ = .next ⟨(d.taken rest).reply tag .notFound .none, q⟩) ∧
    (∀ a data, part.toNat ≤ 2 → d.account (b2 ++ b1 ++ b0 : Amount24).toNat = some a → a.part part = some data →
      exec .accountGet ⟨d, q⟩ = .next ⟨(d.taken rest).reply tag .ok data, q⟩) := by
  exact ⟨fun high => State.onRequest_of_answer q Device.answerAccountGet h rfl (Device.answerAccountGet_of_high high),
    fun low unknown => State.onRequest_of_answer q Device.answerAccountGet h rfl (Device.answerAccountGet_of_unknown low unknown),
    fun a data low known named =>
      State.onRequest_of_answer q Device.answerAccountGet h rfl (Device.answerAccountGet_of_named low known named)⟩

end

/-- Settles O45: the checks come before the owner, and the answers of the four reading requests are refusals that carry data. -/
theorem requestsCheckedOrReadChangeNothing : Obligations.RequestsCheckedOrReadChangeNothing := by
  refine ⟨fun d q r rest h => ⟨fun undefined => ?_, fun c row kind other => ?_, fun c row number more kind params good high => ?_⟩,
    fun d q tag rest => ⟨fun h => ?_, fun st code h => ?_, fun slot h => ?_, fun number b2 b1 b0 part named h => ?_⟩⟩
  · exact exec_unknownRequest q h (paramLength_eq_none undefined)
  · have asks := asks_of_mem c row
    exact exec_of_fault q asks h kind (requestFault_of_length (kind ▸ asks.2) other)
  · obtain ⟨asks, names⟩ := asks_of_station c row
    exact exec_of_fault q asks h kind (requestFault_of_station (kind ▸ asks.2) good (kind ▸ names) params high)
  · exact State.onRequest_of_answer q Device.answerConfigGet h rfl rfl
  · obtain ⟨shows, hides⟩ := exec_stationGet q h
    refine ⟨?_, ?_, ?_, ?_, ?_, fun high => hides (Device.view_of_high st high)⟩ <;> rintro rfl <;> exact shows _ rfl
  · obtain ⟨shows, hides⟩ := exec_holdGet q h
    exact ⟨fun high => hides (readSlot_eq_none high), fun i named => shows i (readSlot_eq_some named)⟩
  · obtain rfl := named
    obtain ⟨bad, missing, shows⟩ := exec_accountGet q h
    refine ⟨bad, missing, fun a known => ⟨?_, ?_, ?_⟩⟩ <;> rintro rfl <;> exact shows a _ (by decide) known rfl

end Sys2Proof.Machine
end

section
/-! PROOF. PERIOD_CLOSE (R135, R137, R138, R140; O54): the walk's next bill, and the export that an accepted close starts. -/

namespace Sys2Proof.Machine

/-! ### The next bill (R137) -/

section
variable {cursor : Nat}

theorem nextBill_eq_none {table : List Account} (zero : ∀ a ∈ table, cursor < a.number → a.closedRecord = .zero) :
    nextBill cursor table = none := by
  refine List.find?_eq_none.mpr fun a member => ?_
  simpa [PeriodRecord.isZero] using zero a member

/-- R137: the next bill is the first entry above the cursor whose CLOSED record is not zero. -/
theorem nextBill_append_cons {before behind : List Account} {a : Account} (above : cursor < a.number)
    (bill : a.closedRecord ≠ .zero) (zero : ∀ b ∈ before, cursor < b.number → b.closedRecord = .zero) :
    nextBill cursor (before ++ a :: behind) = some a := by
  have skipped : nextBill cursor before = none := nextBill_eq_none zero
  have found : nextBill cursor (a :: behind) = some a := List.find?_cons_of_pos (by simp [above, bill, PeriodRecord.isZero])
  unfold nextBill at skipped found ⊢
  rw [List.find?_append, skipped, found]
  rfl

end

/-! ### The close (R135) -/

section
variable {d : Device}

/-- R135: the export that an accepted close starts, its first frame built. -/
def Device.exportStarted (d : Device) (f : ExportFrame) : Exporting :=
  { period := d.exporting.period + 1, running := true, exportedPeriod := d.exporting.period, cursor := 0
    billsExpected := (d.accounts.map Account.turnPeriod).countP fun a => a.closedRecord != .zero
    billsSent := 0, frame := some f }

/-- R140: with no bill to send, the first frame is the EXPORT_END. -/
theorem Device.closePeriod_of_none (none : nextBill 0 (d.accounts.map Account.turnPeriod) = none) :
    d.closePeriod = { d with
      accounts := d.accounts.map Account.turnPeriod, exporting := d.exportStarted (.finish d.exporting.period 0) } := by
  simp only [Device.closePeriod, Device.walkStep, none]
  rfl

/-- R137, R138: the first frame is the bill of the first entry that has one. -/
theorem Device.closePeriod_of_bill {a : Account} (next : nextBill 0 (d.accounts.map Account.turnPeriod) = some a) :
    d.closePeriod = { d with
      accounts := d.accounts.map Account.turnPeriod
      exporting := d.exportStarted (.bill d.exporting.period a.number a.closedRecord) } := by
  simp only [Device.closePeriod, Device.walkStep, next]
  rfl

variable (q : List Instr) {tag : Half} {rest : List MgmtRequest} (h : d.Takes { tag := tag, kind := 0x1C#8, params := [] } rest)
include h

/-- R135: PERIOD_CLOSE while an export runs. -/
theorem exec_periodClose_of_running (running : d.exporting.running = true) :
    exec .periodClose ⟨d, q⟩ = .next ⟨(d.taken rest).reply tag .busy (.exporting d.exporting.view), q⟩ :=
  State.onRequest_of_answer q Device.answerPeriodClose h rfl (if_pos running)

/-- R135: PERIOD_CLOSE while no export runs. -/
theorem exec_periodClose_of_idle (idle : d.exporting.running = false) :
    exec .periodClose ⟨d, q⟩ = .next ⟨(d.taken rest).closePeriod.reply tag .ok
      (.exporting (d.taken rest).closePeriod.exporting.view), q⟩ :=
  State.onRequest_of_answer q Device.answerPeriodClose h rfl (if_neg (Bool.eq_false_iff.mp idle))

end

/-- Settles O54: the first frame is the walk's next bill in the turned table, or the EXPORT_END without one. -/
theorem periodCloseStartsTheExport : Obligations.PeriodCloseStartsTheExport := by
  intro d q tag rest h
  refine ⟨exec_periodClose_of_running q h, fun idle => ⟨fun zero => ?_, fun before a behind split above bill zero => ?_⟩⟩
  · rw [exec_periodClose_of_idle q h idle, Device.closePeriod_of_none (d := d.taken rest) (nextBill_eq_none zero)]
    rfl
  · have next : nextBill 0 ((d.taken rest).accounts.map Account.turnPeriod) = some a := by
      have turned : (d.taken rest).accounts.map Account.turnPeriod = before ++ a :: behind := split
      rw [turned]
      exact nextBill_append_cons above bill zero
    rw [exec_periodClose_of_idle q h idle, Device.closePeriod_of_bill next]
    rfl

end Sys2Proof.Machine
end

section
/-! PROOF. The requests that change the account table (O46, O47): ACCOUNT_PUT and ACCOUNT_DELETE (R101, R102, R104), ACCOUNT_STATE
(R98 to R100) and ACCOUNT_CREDIT (R103). -/

namespace Sys2Proof.Machine

/-! ### Answers about an entry (R105) -/

theorem Device.answerSummary_of_account {d : Device} {n : Nat} {a : Account} (known : d.account n = some a) (status : Status) :
    d.answerSummary n status = { device := d, status := status, data := .summary a.summary } := by
  simp [Device.answerSummary, Device.summaryData, known]

/-- R86: an operation of the account table that takes no refill changes no more of a context than its messages. -/
theorem Device.ctx_eq_but_mail {d t : Device} (acts : ∀ st, d.TableActs t st) (x : Station) :
    t.ctx x = { d.ctx x with accountMail := (t.ctx x).accountMail } := by
  obtain ⟨st, other⟩ := exists_ne x
  exact Context.eq_but_mail ((acts st).muted x) ((acts st).asked x (.inl other.symm))

section
variable {d : Device} (q : List Instr) {tag : Half} {kind : Byte} {params : List Byte} {rest : List MgmtRequest}

/-- R93: a request whose owner changes an entry, serves its waiting list if that is due, and answers with its summary. -/
theorem State.onRequest_of_served (owner : Device → MgmtRequest → Answer)
    (h : d.Takes { tag := tag, kind := kind, params := params } rest)
    (good : requestFault { tag := tag, kind := kind, params := params } = none) {n : Nat} {a : Account} (known : d.account n = some a)
    {f : Account → Account} {due : Prop} [Decidable due]
    (answer : owner (d.taken rest) { tag := tag, kind := kind, params := params } =
      (((d.taken rest).modAccount n f).serveIf (decide due) n).answerSummary n .ok) (keeps : ∀ a, (f a).number = a.number) :
    ∃ (t : Device) (b : Account), State.onRequest ⟨d, q⟩ kind owner = .next ⟨t.reply tag .ok (.summary b.summary), q⟩ ∧
      t = { d.taken rest with accounts := t.accounts, contexts := t.contexts } ∧
      (∀ x, t.ctx x = { d.ctx x with accountMail := (t.ctx x).accountMail }) ∧ d.ListServed t n (f a) b due := by
  let changed := (d.taken rest).modAccount n f
  have entry : changed.account n = some (f a) := by
    rw [(d.taken rest).account_modAccount n f keeps]
    exact congrArg (Option.map f) known
  have others : ∀ m, m ≠ n → changed.account m = d.account m := fun m hm =>
    (d.taken rest).account_modAccount_ne n m f keeps hm
  have acts : ∀ st, (d.taken rest).TableActs (changed.serveIf (decide due) n) st := fun st =>
    (Device.TableActs.modAccount _ st n f).trans (.serveIf _ st _ n)
  obtain ⟨b, served⟩ := Device.serveIf_listServed entry (decide due)
  obtain ⟨grants, granted, kept, fields, mail⟩ := served.served
  rw [decide_eq_true_iff] at granted kept
  refine ⟨changed.serveIf (decide due) n, b, ?_, (acts 0).rest, Device.ctx_eq_but_mail (d := d.taken rest) acts, served.entry,
    fun m hm => (served.others m hm).trans (others m hm), grants, granted, kept, fields, mail⟩
  exact State.onRequest_of_answer q owner h good (answer.trans (Device.answerSummary_of_account served.entry .ok))

end

/-! ### ACCOUNT_PUT (R101, R102) -/

/-- R102: the entry after an update. -/
def AccountOrder.update (o : AccountOrder) (size : SizeClass) (a : Account) : Account :=
  { a with pin := o.pin, limit := o.limit, colourPermitted := o.colour, maxSize := size }

theorem readSize_eq_some {b : Byte} {z : SizeClass} (h : z.val = b.toNat) : readSize b = some z := by
  simp [readSize, ← h]

theorem readSize_eq_none {b : Byte} (high : 3 < b.toNat) : readSize b = none := dif_neg (by omega)

/-- R101: where the table is cut by a new entry. -/
theorem insertAccount_split (a : Account) (table : List Account) : ∃ before behind, table = before ++ behind ∧
    (∀ b ∈ before, b.number ≤ a.number) ∧ (∀ b, behind.head? = some b → a.number < b.number) ∧
    insertAccount a table = before ++ a :: behind := by
  induction table with
  | nil => exact ⟨[], [], rfl, nofun, nofun, rfl⟩
  | cons c rest ih =>
    by_cases below : a.number < c.number
    · refine ⟨[], c :: rest, rfl, nofun, fun b first => ?_, if_pos below⟩
      obtain rfl : c = b := by simpa using first
      exact below
    · obtain ⟨before, behind, split, low, high, inserted⟩ := ih
      refine ⟨c :: before, behind, congrArg (c :: ·) split, List.forall_mem_cons.mpr ⟨Nat.le_of_not_lt below, low⟩, high, ?_⟩
      exact (if_neg below).trans (congrArg (c :: ·) inserted)

/-- R101: the new entry is the one that carries its number. -/
theorem findAccount_inserted {n : Nat} {a : Account} {before behind : List Account}
    (fresh : findAccount n (before ++ behind) = none) (carries : a.number = n) :
    findAccount n (before ++ a :: behind) = some a := by
  unfold findAccount at fresh ⊢
  rw [List.find?_append, Option.or_eq_none_iff] at fresh
  rw [List.find?_append, fresh.1, List.find?_cons_of_pos (by simp [carries])]
  rfl

section
variable {d : Device} {o : AccountOrder} {a : Account} {z : SizeClass}

theorem Device.insertPut_of_bad (bad : o.number = 0 ∨ 3 < o.size.toNat ∨ o.limit < o.spent) :
    d.insertPut o = d.refuse .badValue .none := by
  unfold Device.insertPut
  cases read : readSize o.size with
  | none => rfl
  | some z =>
    refine if_pos (bad.imp_right fun bad => bad.resolve_left fun high => ?_)
    simp [readSize_eq_none high] at read

theorem Device.insertPut_of_full (numbered : o.number ≠ 0) (size : o.size.toNat ≤ 3) (within : o.spent ≤ o.limit)
    (full : 512 ≤ d.accounts.length) : d.insertPut o = d.refuse .full .none := by
  have read : readSize o.size = some ⟨o.size.toNat, by omega⟩ := readSize_eq_some rfl
  simp only [Device.insertPut, read, if_neg (not_or.mpr ⟨numbered, Nat.not_lt.mpr within⟩)]
  exact if_pos full

theorem Device.insertPut_of_room (numbered : o.number ≠ 0) (size : z.val = o.size.toNat) (within : o.spent ≤ o.limit)
    (room : d.accounts.length < 512) : d.insertPut o =
      Device.answerSummary { d with accounts := insertAccount (o.entry z) d.accounts } o.number .ok := by
  simp only [Device.insertPut, readSize_eq_some size, if_neg (not_or.mpr ⟨numbered, Nat.not_lt.mpr within⟩)]
  exact if_neg (Nat.not_le.mpr room)

theorem Device.updatePut_of_closed (closed : a.state = .closed) : d.updatePut o a = d.answerSummary o.number .closed :=
  if_pos closed

theorem Device.updatePut_of_bad (stands : a.state ≠ .closed) (bad : 3 < o.size.toNat ∨ o.limit < a.spent + a.draws) :
    d.updatePut o a = d.answerSummary o.number .badValue := by
  rw [Device.updatePut, if_neg stands]
  cases read : readSize o.size with
  | none => rfl
  | some z =>
    refine if_pos (bad.resolve_left fun high => ?_)
    simp [readSize_eq_none high] at read

theorem Device.updatePut_of_good (stands : a.state ≠ .closed) (size : z.val = o.size.toNat) (within : a.spent + a.draws ≤ o.limit) :
    d.updatePut o a =
      ((d.modAccount o.number (o.update z)).serveIf (a.limit < o.limit) o.number).answerSummary o.number .ok := by
  simp only [Device.updatePut, if_neg stands, readSize_eq_some size, if_neg (Nat.not_lt.mpr within)]
  rfl

variable {r : MgmtRequest} (read : readAccountOrder r.params = some o)
include read

theorem Device.answerAccountPut_of_new (fresh : d.account o.number = none) : d.answerAccountPut r = d.insertPut o := by
  simp only [Device.answerAccountPut, read, fresh]

theorem Device.answerAccountPut_of_known (known : d.account o.number = some a) : d.answerAccountPut r = d.updatePut o a := by
  simp only [Device.answerAccountPut, read, known]

end

/-! ### ACCOUNT_DELETE (R104) -/

section
variable {d : Device} {r : MgmtRequest} {a : Account}

theorem Device.answerAccountDelete_of_unknown (unknown : d.account r.number = none) :
    d.answerAccountDelete r = d.refuse .notFound .none := by
  simp only [Device.answerAccountDelete, unknown]

theorem Device.answerAccountDelete_of_used (known : d.account r.number = some a) (used : a.openSessions ≠ 0 ∨ a.closedRecord ≠ .zero) :
    d.answerAccountDelete r = d.refuse .inUse .none := by
  simp only [Device.answerAccountDelete, known]
  exact if_pos (used.imp_left Nat.pos_of_ne_zero)

theorem Device.answerAccountDelete_of_unused (known : d.account r.number = some a) (unused : a.openSessions = 0)
    (billed : a.closedRecord = .zero) : d.answerAccountDelete r =
      { device := { d with accounts := d.accounts.filter fun a => a.number ≠ r.number }, status := .ok, data := .none } := by
  simp only [Device.answerAccountDelete, known]
  exact if_neg (by simp [unused, billed])

end

section
variable {d : Device} (q : List Instr) {tag : Half} {rest : List MgmtRequest} {params : List Byte} {o : AccountOrder} {a : Account}

/-- R101: an insert that is accepted. -/
theorem exec_accountPut_of_inserted (h : d.Takes { tag := tag, kind := 0x01#8, params := params } rest) (length : params.length = 13)
    (read : readAccountOrder params = some o) {z : SizeClass} (fresh : d.account o.number = none) (numbered : o.number ≠ 0)
    (size : z.val = o.size.toNat) (within : o.spent ≤ o.limit) (room : d.accounts.length < 512) :
    ∃ before behind, d.accounts = before ++ behind ∧ (∀ a ∈ before, a.number ≤ o.number) ∧
      (∀ a, behind.head? = some a → o.number < a.number) ∧
      exec .accountPut ⟨d, q⟩ = .next ⟨({ d.taken rest with accounts := before ++ o.entry z :: behind }).reply tag .ok
        (.summary (o.entry z).summary), q⟩ := by
  obtain ⟨before, behind, split, low, high, inserted⟩ := insertAccount_split (o.entry z) d.accounts
  let t : Device := { d.taken rest with accounts := insertAccount (o.entry z) d.accounts }
  have entry : t.account o.number = some (o.entry z) := by
    refine (congrArg (findAccount o.number) inserted).trans (findAccount_inserted ?_ rfl)
    rw [← split]
    exact fresh
  refine ⟨before, behind, split, low, high, ?_⟩
  rw [← inserted]
  exact State.onRequest_of_answer q Device.answerAccountPut h (by simp [requestFault, paramLength, length, namesStation])
    ((Device.answerAccountPut_of_new (d := d.taken rest) (r := { tag := tag, kind := 0x01#8, params := params }) read fresh).trans
      ((Device.insertPut_of_room (d := d.taken rest) numbered size within room).trans
        (Device.answerSummary_of_account entry .ok)))

end

/-- Settles O46: an insert cuts the table at its number; an update is a change of one entry that may serve its waiting list. -/
theorem accountEntriesArePutAndDeleted : Obligations.AccountEntriesArePutAndDeleted := by
  intro d q tag rest number limit spent pin colour size b2 b1 b0 p1 p0 l2 l1 l0 s2 s1 s0 number_eq pin_eq limit_eq spent_eq
  subst number_eq pin_eq limit_eq spent_eq
  refine ⟨fun h => ?put, fun h => ?delete⟩
  case put =>
    let o : AccountOrder := {
      number := (b2 ++ b1 ++ b0 : Amount24).toNat, pin := p1 ++ p0, limit := (l2 ++ l1 ++ l0 : Amount24).toNat
      spent := (s2 ++ s1 ++ s0 : Amount24).toNat, colour := colour != 0#8, size := size }
    have read : readAccountOrder [b2, b1, b0, p1, p0, l2, l1, l0, s2, s1, s0, colour, size] = some o := rfl
    refine ⟨fun fresh => ⟨fun bad => ?_, fun numbered low within => ⟨fun full => ?_, fun z named room => ?_⟩⟩,
      fun a known carries => ⟨fun closed => ?_, fun stands bad => ?_, fun z stands named within => ?_⟩⟩
    · exact State.onRequest_of_answer q Device.answerAccountPut h rfl
        ((Device.answerAccountPut_of_new read fresh).trans (Device.insertPut_of_bad bad))
    · exact State.onRequest_of_answer q Device.answerAccountPut h rfl
        ((Device.answerAccountPut_of_new read fresh).trans (Device.insertPut_of_full numbered low within full))
    · exact exec_accountPut_of_inserted q h rfl read fresh numbered named within room
    · exact State.onRequest_of_answer q Device.answerAccountPut h rfl ((Device.answerAccountPut_of_known read known).trans
        ((Device.updatePut_of_closed closed).trans (Device.answerSummary_of_account (d := d.taken rest) known .closed)))
    · exact State.onRequest_of_answer q Device.answerAccountPut h rfl ((Device.answerAccountPut_of_known read known).trans
        ((Device.updatePut_of_bad stands bad).trans (Device.answerSummary_of_account (d := d.taken rest) known .badValue)))
    · exact State.onRequest_of_served q Device.answerAccountPut h rfl known (f := o.update z)
        ((Device.answerAccountPut_of_known read known).trans (Device.updatePut_of_good stands named within)) fun _ => rfl
  case delete =>
    refine ⟨fun unknown => ?_, fun a known => ⟨fun used => ?_, fun unused billed => ?_⟩⟩
    · exact State.onRequest_of_answer q Device.answerAccountDelete h rfl (Device.answerAccountDelete_of_unknown unknown)
    · exact State.onRequest_of_answer q Device.answerAccountDelete h rfl (Device.answerAccountDelete_of_used known used)
    · exact State.onRequest_of_answer q Device.answerAccountDelete h rfl (Device.answerAccountDelete_of_unused known unused billed)

end Sys2Proof.Machine
end

section
/-! PROOF. ACCOUNT_STATE (R98 to R100) and ACCOUNT_CREDIT (R103; O47): the close report goes to the stations whose session the account
funds, and a change of an entry leaves the others. -/

namespace Sys2Proof.Machine

theorem Device.ctx_taken (d : Device) (rest : List MgmtRequest) (st : Station) : (d.taken rest).ctx st = d.ctx st := rfl

/-! ### The close report (R100) -/

/-- R100: the close report to some of the stations. -/
def Device.mailClosedTo (d : Device) (number : Nat) (stations : List Station) : Device :=
  stations.foldl (fun d st => if (d.ctx st).fundedBy number then d.mail st (.closed number) else d) d

theorem Device.mailClosed_eq (d : Device) (n : Nat) : d.mailClosed n = d.mailClosedTo n allStations := rfl

theorem Context.fundedBy_of_muted {c k : Context} (h : c.muted = k.muted) (n : Nat) : c.fundedBy n = k.fundedBy n := by
  have session : c.muted.session = k.muted.session := congrArg Context.session h
  change c.session = k.session at session
  simp only [Context.fundedBy, session]

section
variable {d : Device} {n : Nat} {st : Station} {stations : List Station}

theorem Device.mailClosedTo_of_funded (funded : (d.ctx st).fundedBy n = true) :
    d.mailClosedTo n (st :: stations) = (d.mail st (.closed n)).mailClosedTo n stations := by
  simp [Device.mailClosedTo, funded]

theorem Device.mailClosedTo_of_unfunded (unfunded : ¬ (d.ctx st).fundedBy n = true) :
    d.mailClosedTo n (st :: stations) = d.mailClosedTo n stations := by
  simp [Device.mailClosedTo, unfunded]

theorem Device.accounts_mailClosedTo : (d.mailClosedTo n stations).accounts = d.accounts := by
  induction stations generalizing d with
  | nil => rfl
  | cons st more ih =>
    by_cases funded : (d.ctx st).fundedBy n = true
    · rw [Device.mailClosedTo_of_funded funded, ih]
      rfl
    · rw [Device.mailClosedTo_of_unfunded funded, ih]

theorem Device.TableActs.mailClosedTo (x : Station) : d.TableActs (d.mailClosedTo n stations) x := by
  induction stations generalizing d with
  | nil => exact .refl d x
  | cons st more ih =>
    by_cases funded : (d.ctx st).fundedBy n = true
    · rw [Device.mailClosedTo_of_funded funded]
      exact (Device.TableActs.mail d x st _).trans ih
    · rw [Device.mailClosedTo_of_unfunded funded]
      exact ih

/-- R100: each of the stations whose session the account funds is sent one close report. -/
theorem Device.accountMail_mailClosedTo (distinct : stations.Nodup) (x : Station) :
    ((d.mailClosedTo n stations).ctx x).accountMail = (d.ctx x).accountMail ++
      (if x ∈ stations ∧ (d.ctx x).fundedBy n = true then [.closed n] else []) := by
  induction stations generalizing d with
  | nil => simp [Device.mailClosedTo]
  | cons st more ih =>
    obtain ⟨absent, distinct⟩ := List.nodup_cons.mp distinct
    by_cases funded : (d.ctx st).fundedBy n = true
    · have kept : ((d.mail st (.closed n)).ctx x).fundedBy n = (d.ctx x).fundedBy n :=
        Context.fundedBy_of_muted ((Device.TableActs.mail d x st _).muted x) n
      rw [Device.mailClosedTo_of_funded funded, ih distinct, Device.accountMail_mail, kept]
      by_cases e : st = x
      · subst e
        simp [absent, funded]
      · simp [e, Ne.symm e]
    · rw [Device.mailClosedTo_of_unfunded funded, ih distinct]
      by_cases e : st = x
      · subst e
        simp [funded]
      · simp [Ne.symm e]

end

section
variable (d : Device) (n : Nat)

theorem Device.accounts_mailClosed : (d.mailClosed n).accounts = d.accounts := Device.accounts_mailClosedTo

theorem Device.TableActs.mailClosed (x : Station) : d.TableActs (d.mailClosed n) x := .mailClosedTo x

theorem Device.accountMail_mailClosed (x : Station) : ((d.mailClosed n).ctx x).accountMail = (d.ctx x).accountMail ++
    (if (d.ctx x).fundedBy n = true then [.closed n] else []) := by
  rw [Device.mailClosed_eq, Device.accountMail_mailClosedTo (by decide)]
  simp only [mem_allStations, true_and]

end

/-! ### ACCOUNT_STATE (R98 to R100) -/

section
variable {d : Device} {n : Nat} {a : Account}

theorem Device.stopAccount_of_active (carries : a.number = n) (state : a.state = .active) :
    d.stopAccount a = (d.modAccount n fun a => { a with state := .stopped }).answerSummary n .ok := by
  simp only [Device.stopAccount, state, carries]

theorem Device.stopAccount_of_stopped (carries : a.number = n) (state : a.state = .stopped) :
    d.stopAccount a = d.answerSummary n .ok := by
  simp only [Device.stopAccount, state, carries]

theorem Device.stopAccount_of_closed (carries : a.number = n) (state : a.state = .closed) :
    d.stopAccount a = d.answerSummary n .closed := by
  simp only [Device.stopAccount, state, carries]

theorem Device.startAccount_of_active (carries : a.number = n) (state : a.state = .active) :
    d.startAccount a = (d.modAccount n fun a => { a with pinFailures := 0 }).answerSummary n .ok := by
  simp only [Device.startAccount, state, carries]

theorem Device.startAccount_of_stopped (carries : a.number = n) (state : a.state = .stopped) :
    d.startAccount a =
      ((d.modAccount n fun a => { a with state := .active, pinFailures := 0 }).serve n).answerSummary n .ok := by
  simp only [Device.startAccount, state, carries]

theorem Device.startAccount_of_closed (carries : a.number = n) (state : a.state = .closed) :
    d.startAccount a = d.answerSummary n .closed := by
  simp only [Device.startAccount, state, carries]

theorem Device.closeAccount_of_standing (carries : a.number = n) (stands : a.state ≠ .closed) :
    d.closeAccount a =
      ((d.modAccount n fun a => { a with state := .closed, waiting := [] }).mailClosed n).answerSummary n .ok := by
  cases state : a.state with
  | active => simp only [Device.closeAccount, state, carries]
  | stopped => simp only [Device.closeAccount, state, carries]
  | closed => exact absurd state stands

theorem Device.closeAccount_of_closed (carries : a.number = n) (state : a.state = .closed) :
    d.closeAccount a = d.answerSummary n .ok := by
  simp only [Device.closeAccount, state, carries]

variable {r : MgmtRequest}

theorem Device.answerAccountState_of_bad (bad : readStateOrder (r.params.getD 3 0#8) = none) :
    d.answerAccountState r = d.refuse .badValue .none := by
  simp only [Device.answerAccountState, bad]

theorem Device.answerAccountState_of_unknown {order : StateOrder} (read : readStateOrder (r.params.getD 3 0#8) = some order)
    (unknown : d.account r.number = none) : d.answerAccountState r = d.refuse .notFound .none := by
  simp only [Device.answerAccountState, read, unknown]

variable (known : d.account r.number = some a)
include known

theorem Device.answerAccountState_of_stop (read : readStateOrder (r.params.getD 3 0#8) = some .stop) :
    d.answerAccountState r = d.stopAccount a := by
  simp only [Device.answerAccountState, read, known]

theorem Device.answerAccountState_of_start (read : readStateOrder (r.params.getD 3 0#8) = some .start) :
    d.answerAccountState r = d.startAccount a := by
  simp only [Device.answerAccountState, read, known]

theorem Device.answerAccountState_of_close (read : readStateOrder (r.params.getD 3 0#8) = some .close) :
    d.answerAccountState r = d.closeAccount a := by
  simp only [Device.answerAccountState, read, known]

end

/-! ### ACCOUNT_CREDIT (R103) -/

/-- R206: the amount of an ACCOUNT_CREDIT. -/
def MgmtRequest.credit (r : MgmtRequest) : Nat :=
  (amount24 (r.params.getD 3 0#8) (r.params.getD 4 0#8) (r.params.getD 5 0#8)).toNat

theorem MgmtRequest.credit_eq (tag : Half) (kind b2 b1 b0 c2 c1 c0 : Byte) :
    MgmtRequest.credit { tag := tag, kind := kind, params := [b2, b1, b0, c2, c1, c0] } = (c2 ++ c1 ++ c0 : Amount24).toNat := rfl

section
variable {d : Device} {r : MgmtRequest} {amount : Nat} {a : Account}

theorem Device.answerAccountCredit_of_unknown (unknown : d.account r.number = none) :
    d.answerAccountCredit r = d.refuse .notFound .none := by
  simp only [Device.answerAccountCredit, unknown]

variable (credit : r.credit = amount) (known : d.account r.number = some a)
include credit known

theorem Device.answerAccountCredit_of_more (more : a.spent < amount) :
    d.answerAccountCredit r = d.answerSummary r.number .badValue := by
  simp only [Device.answerAccountCredit, known]
  exact if_pos (lt_of_lt_of_eq more credit.symm)

theorem Device.answerAccountCredit_of_spent (spent : amount ≤ a.spent) :
    d.answerAccountCredit r = ((d.modAccount r.number fun a => { a with spent := a.spent - amount }).serveIf
      (decide (0 < amount)) r.number).answerSummary r.number .ok := by
  subst credit
  simp only [Device.answerAccountCredit, known]
  exact if_neg (Nat.not_lt.mpr spent)

end

/-! ### What a change of one entry leaves -/

/-- R98 to R100: the part `t` after a request on account `n` in the part `d`: the account stands as `b`, and each station has been
sent `news` of it. -/
structure Device.EntryBecomes (d t : Device) (n : Nat) (b : Account) (news : Station → List AccountMail) : Prop where
  acts : ∀ st, d.TableActs t st
  entry : t.account n = some b
  others : ∀ m, m ≠ n → t.account m = d.account m
  mail : ∀ st, (t.ctx st).accountMail = (d.ctx st).accountMail ++ news st

namespace Device.EntryBecomes

variable {d t : Device} {n : Nat} {a b : Account} {news : Station → List AccountMail}

theorem modAccount (known : d.account n = some a) (f : Account → Account) (keeps : ∀ a, (f a).number = a.number) :
    d.EntryBecomes (d.modAccount n f) n (f a) fun _ => [] where
  acts st := .modAccount d st n f
  entry := by rw [d.account_modAccount n f keeps, known]; rfl
  others m other := d.account_modAccount_ne n m f keeps other
  mail _ := (List.append_nil _).symm

theorem congr (h : d.EntryBecomes t n b news) {told : Station → List AccountMail} (same : ∀ st, news st = told st) :
    d.EntryBecomes t n b told := { h with mail := fun st => (same st) ▸ h.mail st }

/-- R100: the close report follows the change of the entry. -/
theorem mailClosed (h : d.EntryBecomes t n b fun _ => []) :
    d.EntryBecomes (t.mailClosed n) n b fun st => if (d.ctx st).fundedBy n = true then [.closed n] else [] where
  acts st := (h.acts st).trans (.mailClosed t n st)
  entry := (Device.account_of_accounts (t.accounts_mailClosed n) n).trans h.entry
  others m other := (Device.account_of_accounts (t.accounts_mailClosed n) m).trans (h.others m other)
  mail st := by
    rw [t.accountMail_mailClosed n st, h.mail st, List.append_nil, Context.fundedBy_of_muted ((h.acts 0).muted st) n]

end Device.EntryBecomes

/-- R173: a request whose owner changes an entry and answers with its summary. -/
theorem State.onRequest_of_becomes {d t : Device} (q : List Instr) {tag : Half} {kind : Byte} {params : List Byte}
    {rest : List MgmtRequest} {n : Nat} {b : Account} {news : Station → List AccountMail} (owner : Device → MgmtRequest → Answer)
    (h : d.Takes { tag := tag, kind := kind, params := params } rest)
    (good : requestFault { tag := tag, kind := kind, params := params } = none)
    (becomes : (d.taken rest).EntryBecomes t n b news)
    (answer : owner (d.taken rest) { tag := tag, kind := kind, params := params } = t.answerSummary n .ok) :
    ∃ t : Device, State.onRequest ⟨d, q⟩ kind owner = .next ⟨t.reply tag .ok (.summary b.summary), q⟩ ∧
      t = { d.taken rest with accounts := t.accounts, contexts := t.contexts } ∧ t.account n = some b ∧
      (∀ m, m ≠ n → t.account m = d.account m) ∧
      ∀ st, t.ctx st = { d.ctx st with accountMail := (t.ctx st).accountMail } ∧
        (t.ctx st).accountMail = (d.ctx st).accountMail ++ news st :=
  ⟨t, State.onRequest_of_answer q owner h good (answer.trans (Device.answerSummary_of_account becomes.entry .ok)),
    (becomes.acts 0).rest, becomes.entry, becomes.others, fun st =>
      ⟨Device.ctx_eq_but_mail (d := d.taken rest) becomes.acts st, becomes.mail st⟩⟩

/-- R98 to R100: a value of ACCOUNT_STATE that is one of the three. -/
theorem readStateOrder_isSome {v : Byte} (value : v = 1#8 ∨ v = 2#8 ∨ v = 3#8) : ∃ order, readStateOrder v = some order := by
  obtain rfl | rfl | rfl := value <;> exact ⟨_, rfl⟩

/-- Settles O47: STOP, START and CLOSE change one entry, and a close reports it; a START and a credit serve its waiting list. -/
theorem accountStateAndCreditAreTaken : Obligations.AccountStateAndCreditAreTaken := by
  refine ⟨fun d q tag rest number b2 b1 b0 v named h => ?state,
    fun d q tag rest number amount b2 b1 b0 c2 c1 c0 named credited h => ?credit⟩
  case state =>
    subst named
    refine ⟨fun other1 other2 other3 => ?_, fun value unknown => ?_, fun a known carries => ?_⟩
    · refine State.onRequest_of_answer q Device.answerAccountState h rfl (Device.answerAccountState_of_bad ?_)
      simp [readStateOrder, other1, other2, other3]
    · obtain ⟨order, read⟩ := readStateOrder_isSome value
      exact State.onRequest_of_answer q Device.answerAccountState h rfl (Device.answerAccountState_of_unknown read unknown)
    · replace known : (d.taken rest).account (b2 ++ b1 ++ b0 : Amount24).toNat = some a := known
      have summary := Device.answerSummary_of_account known
      refine ⟨?stopActive, ?stopStopped, ?startActive, ?startStopped, ?turnClosed, ?closeStanding, ?closeClosed⟩
      case stopActive =>
        rintro rfl state
        exact State.onRequest_of_becomes q Device.answerAccountState h rfl
          ((Device.EntryBecomes.modAccount known (fun a => { a with state := .stopped }) fun _ => rfl).congr fun _ => by simp)
          ((Device.answerAccountState_of_stop known rfl).trans (Device.stopAccount_of_active carries state))
      case stopStopped =>
        rintro rfl state
        exact State.onRequest_of_answer q Device.answerAccountState h rfl ((Device.answerAccountState_of_stop known rfl).trans
          ((Device.stopAccount_of_stopped carries state).trans (summary .ok)))
      case startActive =>
        rintro rfl state
        exact State.onRequest_of_becomes q Device.answerAccountState h rfl
          ((Device.EntryBecomes.modAccount known (fun a => { a with pinFailures := 0 }) fun _ => rfl).congr fun _ => by simp)
          ((Device.answerAccountState_of_start known rfl).trans (Device.startAccount_of_active carries state))
      case startStopped =>
        rintro rfl state
        exact State.onRequest_of_served q Device.answerAccountState h rfl known
          (f := fun a => { a with state := .active, pinFailures := 0 }) (due := True)
          ((Device.answerAccountState_of_start known rfl).trans (Device.startAccount_of_stopped carries state)) fun _ => rfl
      case turnClosed =>
        rintro (rfl | rfl) state
        · exact State.onRequest_of_answer q Device.answerAccountState h rfl ((Device.answerAccountState_of_stop known rfl).trans
            ((Device.stopAccount_of_closed carries state).trans (summary .closed)))
        · exact State.onRequest_of_answer q Device.answerAccountState h rfl ((Device.answerAccountState_of_start known rfl).trans
            ((Device.startAccount_of_closed carries state).trans (summary .closed)))
      case closeStanding =>
        rintro rfl stands
        have closed := Device.EntryBecomes.modAccount known (fun a => { a with state := .closed, waiting := [] }) fun _ => rfl
        exact State.onRequest_of_becomes q Device.answerAccountState h rfl
          (closed.mailClosed.congr fun st => by rw [Device.ctx_taken]; simp)
          ((Device.answerAccountState_of_close known rfl).trans (Device.closeAccount_of_standing carries stands))
      case closeClosed =>
        rintro rfl state
        exact State.onRequest_of_answer q Device.answerAccountState h rfl ((Device.answerAccountState_of_close known rfl).trans
          ((Device.closeAccount_of_closed carries state).trans (summary .ok)))
  case credit =>
    subst named credited
    have amount := fun tag kind => MgmtRequest.credit_eq tag kind b2 b1 b0 c2 c1 c0
    refine ⟨fun unknown => ?_, fun a known more => ?_, fun a known carries spent => ?_⟩
    · exact State.onRequest_of_answer q Device.answerAccountCredit h rfl (Device.answerAccountCredit_of_unknown unknown)
    · replace known : (d.taken rest).account (b2 ++ b1 ++ b0 : Amount24).toNat = some a := known
      exact State.onRequest_of_answer q Device.answerAccountCredit h rfl
        ((Device.answerAccountCredit_of_more (amount _ _) known more).trans (Device.answerSummary_of_account known .badValue))
    · exact State.onRequest_of_served q Device.answerAccountCredit h rfl known
        (f := fun a => { a with spent := a.spent - (c2 ++ c1 ++ c0 : Amount24).toNat })
        (Device.answerAccountCredit_of_spent (d := d.taken rest) (amount _ _) known spent) fun _ => rfl

end Sys2Proof.Machine
end

section
/-! PROOF. CONFIG_SET (O50): the ten parameters by their codes, and the answer for a value within the range, outside it, or below
the outstanding count (R179, R180). -/

namespace Sys2Proof.Machine

/-! ### The parameters -/

theorem Params.get_put (p : Params) (name other : ParamName) (v : Nat) :
    (p.put name v).get other = if other = name then v else p.get other := by
  cases name <;> cases other <;> rfl

/-- R207: the codes run from 01 to 0A. -/
theorem readParam_eq_none {code : Byte} (h : code.toNat = 0 ∨ 10 < code.toNat) : readParam code = none := by
  have other : ∀ k : Byte, 0 < k.toNat → k.toNat ≤ 10 → code ≠ k := by
    rintro k low high rfl
    omega
  simp [readParam, other]

/-- R179: the ten rows of the table: code, name and range. -/
theorem readParam_of_row : ∀ row ∈ [(1, ParamName.drawSize, 10, 5000), (2, .cardHold, 100, 50000),
    (3, .renewalIncrement, 100, 50000), (4, .renewalMargin, 30, 600), (5, .authTimeout, 5, 120), (6, .outstandingLimit, 1, 8),
    (7, .idleTime, 10, 600), (8, .dozeTime, 0, 120), (9, .jamTime, 1, 60), (10, .pinFailureLimit, 1, 15)],
    readParam (BitVec.ofNat 8 row.1) = some row.2.1 ∧ row.2.1.range = row.2.2 := by
  decide

/-! ### The answers -/

section
variable {d : Device} {code : Byte} {name : ParamName} {v : Nat}

theorem Device.setParam_of_outside (outside : v < name.range.1 ∨ name.range.2 < v) :
    d.setParam code name v = d.answerParam code name .badValue := if_pos outside

theorem Device.setParam_of_busy (low : name.range.1 ≤ v) (high : v ≤ name.range.2) (limit : name = .outstandingLimit)
    (below : v < d.outstanding) : d.setParam code name v = d.answerParam code name .busy := by
  rw [Device.setParam, if_neg (by omega), if_pos ⟨limit, below⟩]

theorem Device.setParam_of_inside (low : name.range.1 ≤ v) (high : v ≤ name.range.2)
    (free : name ≠ .outstandingLimit ∨ d.outstanding ≤ v) : d.setParam code name v =
      { device := { d with mgmt := { d.mgmt with params := d.mgmt.params.put name v } }, status := .ok, data := .param code v } := by
  have allowed : ¬ (name = .outstandingLimit ∧ v < d.outstanding) := fun h => free.elim (· h.1) (by omega)
  rw [Device.setParam, if_neg (by omega), if_neg allowed, Device.answerParam, Params.get_put, if_pos rfl]

end

section
variable {d : Device} (q : List Instr) {tag : Half} {rest : List MgmtRequest} {code v1 v0 : Byte} {name : ParamName}

/-- R180: a CONFIG_SET of an unknown parameter. -/
theorem exec_configSet_of_unknown (h : d.Takes { tag := tag, kind := 0x0C#8, params := [code, v1, v0] } rest)
    (unknown : readParam code = none) : exec .configSet ⟨d, q⟩ = .next ⟨(d.taken rest).reply tag .badValue .none, q⟩ := by
  refine State.onRequest_of_answer q Device.answerConfigSet h (by simp [requestFault, paramLength, namesStation]) ?_
  simp [Device.answerConfigSet, unknown, Device.refuse]

/-- R180: a CONFIG_SET of one of the ten is answered as the value asks. -/
theorem exec_configSet_of_named (h : d.Takes { tag := tag, kind := 0x0C#8, params := [code, v1, v0] } rest)
    (named : readParam code = some name) {t : Device} {status : Status} {data : ReplyData}
    (answer : (d.taken rest).setParam code name (v1 ++ v0 : BitVec 16).toNat = { device := t, status := status, data := data }) :
    exec .configSet ⟨d, q⟩ = .next ⟨t.reply tag status data, q⟩ := by
  refine State.onRequest_of_answer q Device.answerConfigSet h (by simp [requestFault, paramLength, namesStation]) ?_
  simpa [Device.answerConfigSet, named, half] using answer

end

/-- Settles O50: the code names the row, and the value's place in the row's range chooses the answer. -/
theorem configSetKeepsRanges : Obligations.ConfigSetKeepsRanges := by
  intro d q tag rest code v1 v0 h
  refine ⟨fun unknown => exec_configSet_of_unknown q h (readParam_eq_none unknown), fun row member number => ?_⟩
  have coded : BitVec.ofNat 8 row.1 = code := by rw [← number]; simp
  obtain ⟨named, range⟩ := coded ▸ readParam_of_row row member
  rw [← range]
  refine ⟨fun outside => ?_, fun low high limit below => ?_, fun low high free => ?_⟩
  · exact exec_configSet_of_named q h named (Device.setParam_of_outside outside)
  · exact exec_configSet_of_named q h named (Device.setParam_of_busy low high limit below)
  · refine ⟨d.mgmt.params.put row.2.1 (v1 ++ v0 : BitVec 16).toNat, ?_, fun other different => ?_, ?_⟩
    · rw [Params.get_put, if_pos rfl]
    · rw [Params.get_put, if_neg different]
    · exact exec_configSet_of_named q h named (Device.setParam_of_inside low high free)

end Sys2Proof.Machine
end

section
/-! PROOF. The arbiter of the uplink (R164): the first ready source (O33), and the payment request that it sends (O34; R111, R123). -/

namespace Sys2Proof.Machine

/-! ### The choice -/

section
variable {d : Device} {source : Source}

theorem exec_arbiterChoice (q : List Instr) (works : d.Works) : exec .arbiterChoice ⟨d, q⟩ = .next ⟨d.arbitrate, q⟩ :=
  State.onDevice_running d q _ works

/-- R164: without a carrier, or with a frame in the transmitter, nothing is chosen. -/
theorem Device.arbitrate_of_busy (busy : d.uplink.carrier = false ∨ d.uplink.transmitter ≠ .free) : d.arbitrate = d :=
  if_neg fun ⟨present, free⟩ => busy.elim (fun absent => nomatch absent.symm.trans present) (· free)

/-- R164: the source that is chosen is the first of the order that is ready. -/
theorem Device.arbitrate_of_first (carrier : d.uplink.carrier = true) (free : d.uplink.transmitter = .free)
    (first : sources.find? d.ready = some source) : d.arbitrate = d.choose source := by
  rw [Device.arbitrate, if_pos ⟨carrier, free⟩, first]

theorem Device.arbitrate_of_none (none : sources.find? d.ready = none) : d.arbitrate = d := by
  rw [Device.arbitrate, none]
  exact ite_self d

/-- R111: with nothing queued, or at the outstanding limit, no request may be sent. -/
theorem Device.requestReady_eq_false (h : d.payQueue = [] ∨ d.mgmt.params.outstandingLimit ≤ d.outstanding) :
    d.requestReady = false := by
  obtain empty | full := h
  · simp [Device.requestReady, empty]
  · simp [Device.requestReady, full]

theorem Device.requestReady_eq_true {e : QueueEntry} {rest : List QueueEntry} (queued : d.payQueue = e :: rest)
    (below : d.outstanding < d.mgmt.params.outstandingLimit) : d.requestReady = true := by
  simp [Device.requestReady, queued, below]

/-- R164: the payment source stands behind the replies alone. -/
theorem Device.find?_payment (noReply : d.mgmt.replies = []) (ready : d.ready .payment = true) :
    sources.find? d.ready = some .payment := by
  have reply : d.ready .reply = false := by simp [Device.ready, noReply]
  simp [sources, reply, ready]

/-- R114: a stale void goes before the requests. -/
theorem Device.choosePayment_of_stale {ref : Reference} {rest : List Reference} (stale : d.staleVoids = ref :: rest) :
    d.choosePayment = { d with staleVoids := rest }.hold .payment (.void none (some ref)) := by
  rw [Device.choosePayment, stale]

theorem Device.choosePayment_of_queued {e : QueueEntry} {rest : List QueueEntry} (noStale : d.staleVoids = [])
    (queued : d.payQueue = e :: rest) : d.choosePayment = d.sendRequest e rest := by
  rw [Device.choosePayment, noStale, queued]

theorem Device.choose_reply {r : Reply} {rest : List Reply} (replies : d.mgmt.replies = r :: rest) :
    d.choose .reply = d.hold .reply (.reply r) := by
  simp only [Device.choose, replies]

theorem Device.choose_sessionReport {r : Report} {rest : List Report} (reports : d.reports = r :: rest) :
    d.choose .sessionReport = d.hold .sessionReport (.sessionReport r) := by
  simp only [Device.choose, reports]

theorem Device.choose_serviceUp {i : ServiceItem} {rest : List ServiceItem} (texts : d.serviceUp = i :: rest) :
    d.choose .serviceUp = d.hold .serviceUp (.serviceUp i.station i.payload) := by
  simp only [Device.choose, texts]

theorem Device.choose_billing {f : ExportFrame} (frame : d.exporting.frame = some f) :
    d.choose .billing = d.hold .billing f.uplink := by
  simp only [Device.choose, frame]

end

/-- Settles O33: each of the six sources in turn, with all those before it idle. -/
theorem arbiterChoosesFirstReadySource : Obligations.ArbiterChoosesFirstReadySource := by
  intro d q works
  refine ⟨fun busy => by rw [exec_arbiterChoice q works, Device.arbitrate_of_busy busy], fun carrier free => ?_⟩
  have chosen : ∀ {source t}, sources.find? d.ready = some source → d.choose source = t →
      exec .arbiterChoice ⟨d, q⟩ = .next ⟨t, q⟩ := by
    rintro source t first rfl
    rw [exec_arbiterChoice q works, Device.arbitrate_of_first carrier free first]
  refine ⟨fun r rest replies => ?reply, fun noReply => ⟨fun ref rest stale => ?stale, fun noStale noRequest => ?_⟩⟩
  case reply =>
    have ready : d.ready .reply = true := by simp [Device.ready, replies]
    exact chosen (by simp [sources, ready]) (Device.choose_reply replies)
  case stale =>
    have ready : d.ready .payment = true := by simp [Device.ready, stale]
    exact chosen (Device.find?_payment noReply ready) (Device.choosePayment_of_stale stale)
  have reply : d.ready .reply = false := by simp [Device.ready, noReply]
  have payment : d.ready .payment = false := by simp [Device.ready, noStale, Device.requestReady_eq_false noRequest]
  refine ⟨fun (notice : d.ready .notice = true) => ?notice, fun (notice : d.ready .notice = false) => ?_⟩
  case notice => exact chosen (source := .notice) (by simp [sources, reply, payment, notice]) rfl
  refine ⟨fun r rest reports => ?report, fun noReport => ?_⟩
  case report =>
    have ready : d.ready .sessionReport = true := by simp [Device.ready, reports]
    exact chosen (by simp [sources, reply, payment, notice, ready]) (Device.choose_sessionReport reports)
  have report : d.ready .sessionReport = false := by simp [Device.ready, noReport]
  refine ⟨fun i rest texts => ?text, fun noText => ?_⟩
  case text =>
    have ready : d.ready .serviceUp = true := by simp [Device.ready, texts]
    exact chosen (by simp [sources, reply, payment, notice, report, ready]) (Device.choose_serviceUp texts)
  have text : d.ready .serviceUp = false := by simp [Device.ready, noText]
  have billing : ∀ f, d.exporting.frame = some f → exec .arbiterChoice ⟨d, q⟩ = .next ⟨d.hold .billing f.uplink, q⟩ := by
    intro f frame
    have ready : d.ready .billing = true := by simp [Device.ready, frame]
    exact chosen (by simp [sources, reply, payment, notice, report, text, ready]) (Device.choose_billing frame)
  refine ⟨fun p n r => billing (.bill p n r), fun p n => billing (.finish p n), fun noFrame => ?_⟩
  have idle : d.ready .billing = false := by simp [Device.ready, noFrame]
  rw [exec_arbiterChoice q works, Device.arbitrate_of_none (by simp [sources, reply, payment, notice, report, text, idle])]

/-! ### The request sent (R111, R123) -/

section
variable {d : Device} {e : QueueEntry} {rest : List QueueEntry}

@[simp] theorem Device.slot_sendRequest : (d.sendRequest e rest).slot e.ref.slot =
    (d.slot e.ref.slot).sendRequest e.kind d.mgmt.params.authTimeout := d.slot_modSlot e.ref.slot _

theorem Device.slot_sendRequest_ne {x : SlotNo} (h : x ≠ e.ref.slot) : (d.sendRequest e rest).slot x = d.slot x :=
  d.slot_modSlot_ne e.ref.slot x _ h

/-- R111: the queue, the count, the slot and the transmitter change. -/
theorem Device.sendRequest_rest (d : Device) (e : QueueEntry) (rest : List QueueEntry) : d.sendRequest e rest =
    { d with
      slots := (d.sendRequest e rest).slots, payQueue := rest, outstanding := d.outstanding + 1
      uplink := { d.uplink with transmitter := .holding .payment (d.requestFrame e) } } := rfl

theorem Device.requestFrame_of_auth {token : List Byte} {n : Nat} (kind : e.kind = .auth)
    (holds : (d.slot e.ref.slot).token = some token) (asks : (d.slot e.ref.slot).asked = some n) :
    d.requestFrame e = .authReq e.ref (d.slot e.ref.slot).owner token n := by
  simp [Device.requestFrame, kind, holds, asks]

/-- R123: what a RENEW_REQ asks for depends on the funds mark. -/
theorem Device.requestFrame_of_renew {r : Request} (kind : e.kind = .renew) (request : (d.slot e.ref.slot).request = some r) :
    d.requestFrame e = .renewReq e.ref (d.slot e.ref.slot).reference
      (renewAmount (d.slot e.ref.slot).approved r.funds d.mgmt.params.renewalIncrement) := by
  simp [Device.requestFrame, kind, Slot.fundsMarked, request]

theorem Device.requestFrame_of_capture {r : Request} (kind : e.kind = .capture)
    (request : (d.slot e.ref.slot).request = some r) :
    d.requestFrame e = .capture e.ref (d.slot e.ref.slot).reference r.amount := by
  simp [Device.requestFrame, kind, request]

theorem Device.requestFrame_of_void (kind : e.kind = .void) :
    d.requestFrame e = .void (some e.ref) (d.slot e.ref.slot).reference := by
  simp [Device.requestFrame, kind]

end

/-- Settles O34: the payment source is the first that is ready, and the head of its queue is sent. -/
theorem paymentRequestIsSent : Obligations.PaymentRequestIsSent := by
  intro d q e rest r works carrier free noReply noStale queued below request
  have ready : d.ready .payment = true := by simp [Device.ready, Device.requestReady_eq_true queued below]
  have sent : d.arbitrate = d.sendRequest e rest :=
    (Device.arbitrate_of_first carrier free (Device.find?_payment noReply ready)).trans
      (Device.choosePayment_of_queued noStale queued)
  refine ⟨d.sendRequest e rest, d.requestFrame e, by rw [exec_arbiterChoice q works, sent], d.sendRequest_rest e rest, ?_,
    fun x => Device.slot_sendRequest_ne, fun token n => Device.requestFrame_of_auth, fun kind marked => ?_,
    fun kind unmarked => ?_, fun kind => Device.requestFrame_of_capture kind request, Device.requestFrame_of_void⟩
  · rw [Device.slot_sendRequest, Slot.sendRequest, request]
    rfl
  · rw [Device.requestFrame_of_renew kind request, marked]
    rfl
  · rw [Device.requestFrame_of_renew kind request, unmarked]
    rfl

end Sys2Proof.Machine
end

section
/-! PROOF. How payment requests end (R112, R113) and what each end makes of the slot; the results of a CAPTURE or VOID (O38) and the
timers of a slot (O39). -/

namespace Sys2Proof.Machine

/-! ### The slot and the request that a result is for (R113) -/

section
variable {d : Device} {i : SlotNo} {slot generation : Byte}

theorem Device.matchRef_eq_some_iff :
    d.matchRef slot generation = some i ↔ slot.toNat = i.val ∧ (d.slot i).generation = generation := by
  by_cases bound : slot.toNat < 32
  · have read : readSlot slot = some ⟨slot.toNat, bound⟩ := readSlot_eq_some rfl
    simp only [Device.matchRef, read, Option.ite_none_right_eq_some, Option.some.injEq, Fin.ext_iff]
    constructor
    · rintro ⟨same, number⟩
      obtain rfl : ⟨slot.toNat, bound⟩ = i := Fin.ext number
      exact ⟨rfl, same⟩
    · rintro ⟨number, same⟩
      obtain rfl : ⟨slot.toNat, bound⟩ = i := Fin.ext number
      exact ⟨same, rfl⟩
  · have unread : readSlot slot = none := readSlot_eq_none (by omega)
    have above : slot.toNat ≠ i.val := by omega
    simp [Device.matchRef, unread, above]

theorem SlotNo.toNat_ofNat (i : SlotNo) : (BitVec.ofNat 8 i.val).toNat = i.val := by
  rw [BitVec.toNat_ofNat]
  omega

theorem Device.matchRef_of_same (same : (d.slot i).generation = generation) :
    d.matchRef (BitVec.ofNat 8 i.val) generation = some i :=
  Device.matchRef_eq_some_iff.mpr ⟨SlotNo.toNat_ofNat i, same⟩

theorem Device.matchRef_of_other (other : (d.slot i).generation ≠ generation) :
    d.matchRef (BitVec.ofNat 8 i.val) generation = none := by
  refine Option.eq_none_iff_forall_ne_some.mpr fun x matched => other ?_
  obtain ⟨number, same⟩ := Device.matchRef_eq_some_iff.mp matched
  obtain rfl : i = x := Fin.ext ((SlotNo.toNat_ofNat i).symm.trans number)
  exact same

end

theorem Slot.awaits_iff (s : Slot) (k : RequestKind) : s.awaits k = true ↔
    ∃ n f a, s.request = some { kind := k, place := .outstanding n, funds := f, amount := a } := by
  unfold Slot.awaits
  split
  · rename_i h
    simp [h]
  · rename_i h
    simp only [Bool.false_eq_true, false_iff, not_exists]
    exact fun n f a request => h k n f a request

theorem Slot.fundsMarked_of_request {s : Slot} {k : RequestKind} {p : Place} {f : Bool} {a : Nat}
    (request : s.request = some { kind := k, place := p, funds := f, amount := a }) : s.fundsMarked = f := by
  simp only [Slot.fundsMarked, request]

/-! ### The end of an outstanding request (R112) -/

/-- The payment unit's reports with one more, of a slot to its owner station. -/
def Device.reported (d : Device) (i : SlotNo) (kind : ReportKind) : List PayReport :=
  d.payReports ++ (d.slot i).owner.toList.map fun st => { kind := kind, station := st, ref := d.slotRef i }

/-- The payment unit's reports with one more if the renewal that has ended was asked for funds (R124, R125). -/
def Device.reportedIf (d : Device) (marked : Bool) (i : SlotNo) (kind : ReportKind) : List PayReport :=
  d.payReports ++ (if marked then (d.slot i).owner.toList else []).map fun st => { kind := kind, station := st, ref := d.slotRef i }

/-- R112: the part `d` when a request of slot `i` is OUTSTANDING no more: the count has fallen, the slot has changed by `f`, and
`reports` are under way. -/
def Device.requestEnded (d : Device) (i : SlotNo) (f : Slot → Slot) (reports : List PayReport) : Device :=
  { d.modSlot i f with outstanding := d.outstanding - 1, payReports := reports }

section
variable {d t : Device} {i x : SlotNo} {f : Slot → Slot} {reports : List PayReport} {kind : ReportKind}

theorem Device.payReport_eq (d : Device) (i : SlotNo) (kind : ReportKind) :
    d.payReport i kind = { d with payReports := d.reported i kind } := by
  cases owner : (d.slot i).owner with
  | none => simp [Device.payReport, Device.reported, owner]
  | some st => simp [Device.payReport, Device.reported, owner]

theorem Device.reportedIf_eq (d : Device) (marked : Bool) (i : SlotNo) (kind : ReportKind) :
    d.reportedIf marked i kind = if marked then d.reported i kind else d.payReports := by
  cases marked <;> simp [Device.reportedIf, Device.reported]

theorem Device.reported_congr (owner : (t.slot i).owner = (d.slot i).owner)
    (generation : (t.slot i).generation = (d.slot i).generation) (reports : t.payReports = d.payReports) :
    t.reported i kind = d.reported i kind := by
  simp only [Device.reported, Device.slotRef, owner, generation, reports]

theorem Device.endOutstanding_eq (d : Device) (i : SlotNo) :
    d.endOutstanding i = d.requestEnded i (fun s => { s with request := none }) d.payReports := rfl

@[simp] theorem Device.slot_requestEnded : (d.requestEnded i f reports).slot i = f (d.slot i) := d.slot_modSlot i f

theorem Device.OtherSlotsSame.requestEnded : d.OtherSlotsSame (d.requestEnded i f reports) i :=
  fun x other => d.slot_modSlot_ne i x f other

theorem Device.requestEnded_modSlot (d : Device) (i : SlotNo) (f g : Slot → Slot) (reports : List PayReport) :
    (d.requestEnded i f reports).modSlot i g = d.requestEnded i (fun s => g (f s)) reports :=
  congrArg (fun x : Device => { x with outstanding := d.outstanding - 1, payReports := reports }) (d.modSlot_modSlot i f g)

/-- The end of a request that leaves the slot its owner and generation leaves what is reported of it. -/
theorem Device.reported_requestEnded (owner : (f (d.slot i)).owner = (d.slot i).owner)
    (generation : (f (d.slot i)).generation = (d.slot i).generation) :
    (d.requestEnded i f d.payReports).reported i kind = d.reported i kind :=
  Device.reported_congr (by rwa [Device.slot_requestEnded]) (by rwa [Device.slot_requestEnded]) rfl

theorem Device.payReport_requestEnded (owner : (f (d.slot i)).owner = (d.slot i).owner)
    (generation : (f (d.slot i)).generation = (d.slot i).generation) :
    (d.requestEnded i f d.payReports).payReport i kind = d.requestEnded i f (d.reported i kind) := by
  rw [Device.payReport_eq, Device.reported_requestEnded owner generation]
  rfl

end

/-! ### The lifetime renewal test (R121) -/

section
variable {d : Device} {i x : SlotNo} {s : Slot}

theorem Slot.renewalDue_iff (s : Slot) (margin : Nat) : s.renewalDue margin = true ↔
    s.state = .active ∧ s.renewalsRefused = false ∧ s.request = none ∧ s.lifetime ≤ margin := by
  simp [Slot.renewalDue, and_assoc]

theorem Device.lifetimeTest_of_undue (undue : ¬ (d.slot i).renewalDue d.mgmt.params.renewalMargin = true) :
    d.lifetimeTest i = d := if_neg undue

theorem Device.lifetimeTest_rest (d : Device) (i : SlotNo) : d.lifetimeTest i =
    { d with slots := (d.lifetimeTest i).slots, payQueue := (d.lifetimeTest i).payQueue } := by
  unfold Device.lifetimeTest
  split <;> rfl

theorem Device.slot_lifetimeTest_ne (other : x ≠ i) : (d.lifetimeTest i).slot x = d.slot x := by
  unfold Device.lifetimeTest
  split
  · rw [Device.slot_modSlot_ne _ _ _ _ other, Device.slot_queueRequest_ne _ _ _ _ _ _ other]
  · rfl

/-- R121: a slot that has just become ACTIVE, with its lifetime above the margin or its renewals refused. -/
theorem Device.lifetimeTest_of_long (slot : d.slot i = s)
    (long : d.mgmt.params.renewalMargin < s.lifetime ∨ s.renewalsRefused = true) :
    (d.lifetimeTest i).slot i = s ∧ (d.lifetimeTest i).payQueue = d.payQueue := by
  have undue : ¬ (d.slot i).renewalDue d.mgmt.params.renewalMargin = true := by
    rw [slot, Slot.renewalDue_iff]
    rintro ⟨-, allowed, -, short⟩
    exact long.elim (by omega) (by simp [allowed])
  rw [Device.lifetimeTest_of_undue undue]
  exact ⟨slot, rfl⟩

/-- R121: a slot that has just become ACTIVE, with its lifetime within the margin. -/
theorem Device.lifetimeTest_of_short (slot : d.slot i = s) (active : s.state = .active) (request : s.request = none)
    (short : s.lifetime ≤ d.mgmt.params.renewalMargin) (allowed : s.renewalsRefused = false) :
    (d.lifetimeTest i).slot i = s.renewalAsked ∧
      (d.lifetimeTest i).payQueue = d.payQueue ++ [{ ref := d.slotRef i, kind := .renew }] := by
  have due : (d.slot i).renewalDue d.mgmt.params.renewalMargin = true := by
    rw [slot, Slot.renewalDue_iff]
    exact ⟨active, allowed, request, short⟩
  have asked := Device.RenewalsAsked.lifetimeTest due
  refine ⟨?_, asked.payQueue⟩
  rw [asked.slot i, if_pos (List.mem_singleton_self i), slot]

/-- R116, R121, R124: the end of a request makes a slot ACTIVE, and its lifetime renewal is asked at once or not. -/
theorem Device.requestEnded_lifetimeTest {f : Slot → Slot} (d : Device) (i : SlotNo) (reports : List PayReport)
    (becomes : f (d.slot i) = s) (active : s.state = .active) (request : s.request = none)
    (generation : s.generation = (d.slot i).generation) :
    let t := (d.requestEnded i f reports).lifetimeTest i
    t = { d with slots := t.slots, payQueue := t.payQueue, outstanding := d.outstanding - 1, payReports := reports } ∧
      d.OtherSlotsSame t i ∧
      (d.mgmt.params.renewalMargin < s.lifetime ∨ s.renewalsRefused = true → t.slot i = s ∧ t.payQueue = d.payQueue) ∧
      (s.lifetime ≤ d.mgmt.params.renewalMargin → s.renewalsRefused = false →
        t.slot i = s.renewalAsked ∧ t.payQueue = d.payQueue ++ [{ ref := d.slotRef i, kind := .renew }]) := by
  have slot : (d.requestEnded i f reports).slot i = s := Device.slot_requestEnded.trans becomes
  have ref : (d.requestEnded i f reports).slotRef i = d.slotRef i := by rw [Device.slotRef, slot, generation]; rfl
  refine ⟨Device.lifetimeTest_rest _ i, fun x other => ?_, fun long => ?_, fun short allowed => ?_⟩
  · rw [Device.slot_lifetimeTest_ne other]
    exact Device.OtherSlotsSame.requestEnded x other
  · exact Device.lifetimeTest_of_long slot long
  · rw [← ref]
    exact Device.lifetimeTest_of_short slot active request short allowed

/-- A report may stand before the test as well as behind it. -/
theorem Device.payReport_lifetimeTest (d : Device) (i : SlotNo) (kind : ReportKind) :
    (d.lifetimeTest i).payReport i kind = ({ d with payReports := d.reported i kind } : Device).lifetimeTest i := by
  by_cases due : (d.slot i).renewalDue d.mgmt.params.renewalMargin = true
  · have asked : d.lifetimeTest i = (d.queueRequest i .renew false 0).modSlot i fun s => { s with state := .renewing } := if_pos due
    have reported : (d.lifetimeTest i).reported i kind = d.reported i kind :=
      Device.reported_congr (by simp [asked]) (by simp [asked]) (by rw [asked]; rfl)
    rw [Device.payReport_eq, reported, asked]
    exact (if_pos due).symm
  · rw [Device.lifetimeTest_of_undue due, Device.payReport_eq]
    exact (if_neg due).symm

end

/-! ### What each end is (R116 to R129) -/

/-- R116: a slot in AUTHORIZING that has been approved. -/
def Slot.authorized (s : Slot) (ref : Reference) (approved : Nat) (lifetime : Byte) : Slot :=
  { s with
    state := .active, request := none, reference := some ref, approved := approved, consumed := 0, provisional := 0
    lifetime := lifetimeSeconds lifetime, renewalsRefused := false }

/-- R124: a slot in RENEWING whose renewal has been approved. -/
def Slot.renewed (s : Slot) (approved : Nat) (lifetime : Byte) : Slot :=
  { s with state := .active, request := none, approved := approved, lifetime := lifetimeSeconds lifetime }

section
variable {d : Device} {i : SlotNo} {approved : Nat} {lifetime : Byte}

theorem Device.approveAuth_eq (ref : Reference) : d.approveAuth i ref approved lifetime =
    (d.requestEnded i (fun s => s.authorized ref approved lifetime) (d.reported i .approval)).lifetimeTest i := by
  rw [Device.approveAuth, Device.endOutstanding_eq, Device.requestEnded_modSlot]
  exact congrArg (Device.lifetimeTest · i) (Device.payReport_requestEnded rfl rfl)

theorem Device.declineAuth_eq : d.declineAuth i =
    d.requestEnded i (fun s => Slot.freed s.generation) (d.reported i .decline) := by
  rw [Device.declineAuth, Device.endOutstanding_eq, Device.payReport_requestEnded rfl rfl, Device.freeSlot,
    Device.requestEnded_modSlot]

theorem Device.lapseReported_eq : ((d.endOutstanding i).lapse i).payReport i .timeout =
    d.requestEnded i (fun s => { s with
      state := .lapsed, request := none, token := none, lapseTimer := some (4 * d.mgmt.params.authTimeout) })
      (d.reported i .timeout) := by
  rw [Device.endOutstanding_eq, Device.lapse, Device.requestEnded_modSlot]
  exact Device.payReport_requestEnded rfl rfl

/-- R124, R125: the refusal is reported if the renewal was asked for funds. -/
theorem Device.refuseRenewal_eq : d.refuseRenewal i =
    d.requestEnded i (fun s => { s with state := .active, request := none, renewalsRefused := true })
      (d.reportedIf (d.slot i).fundsMarked i .renewalRefusal) := by
  rw [Device.refuseRenewal, Device.reportedIf_eq, Device.endOutstanding_eq, Device.requestEnded_modSlot]
  split
  · exact Device.payReport_requestEnded rfl rfl
  · rfl

/-- R124: the approval is reported if the renewal was asked for funds. -/
theorem Device.approveRenewal_eq : d.approveRenewal i approved lifetime =
    (d.requestEnded i (fun s => s.renewed approved lifetime)
      (d.reportedIf (d.slot i).fundsMarked i .renewalApproval)).lifetimeTest i := by
  rw [Device.approveRenewal, Device.reportedIf_eq, Device.endOutstanding_eq, Device.requestEnded_modSlot]
  split
  · rw [Device.payReport_lifetimeTest, Device.reported_requestEnded rfl rfl]
    rfl
  · rfl

/-- R129: the final request that waited is queued. -/
theorem Device.releaseFinal_eq {w : FinalRequest} (waits : (d.slot i).finalWaiting = some w) : d.releaseFinal i =
    (d.requestEnded i (fun s => { s with request := none, finalWaiting := none }) d.payReports).queueFinal i w := by
  rw [Device.releaseFinal, waits, Device.endOutstanding_eq]
  exact congrArg (Device.queueFinal · i w) (d.requestEnded_modSlot i _ _ _)

theorem Device.endFinal_confirmed : d.endFinal i false =
    d.requestEnded i (fun s => Slot.freed s.generation) d.payReports := d.requestEnded_modSlot i _ _ _

theorem Device.endFinal_unconfirmed : d.endFinal i true =
    (d.requestEnded i (fun s => Slot.freed s.generation) d.payReports).notice .paymentUnconfirmed (d.slot i).owner := by
  rw [← Device.endFinal_confirmed]
  have owner : ((d.endOutstanding i).slot i).owner = (d.slot i).owner := by rw [Device.slot_endOutstanding]
  rw [← owner]
  rfl

end

/-! ### CAPTURE_DONE, VOID_DONE and their timeout (R128) -/

section
variable {d : Device} {i : SlotNo} {slot generation outcome life : Byte} {amount : Amount24}

theorem Device.takeCaptureDone_of_awaited (matched : d.matchRef slot generation = some i)
    (state : (d.slot i).state = .capturing) (awaits : (d.slot i).awaits .capture = true) :
    d.takeCaptureDone slot generation outcome = d.endFinal i (outcome != outcomeTaken) := by
  simp only [Device.takeCaptureDone, matched, state, awaits, and_self, if_true]

theorem Device.takeVoidDone_of_awaited (matched : d.matchRef slot generation = some i)
    (state : (d.slot i).state = .voiding) (awaits : (d.slot i).awaits .void = true) :
    d.takeVoidDone slot generation = d.endFinal i false := by
  simp only [Device.takeVoidDone, matched, state, awaits, and_self, if_true]

/-- R113: no slot that the reference names awaits a result of the kind. -/
def Device.Stale (d : Device) (slot generation : Byte) (k : RequestKind) : Prop :=
  ∀ i, d.matchRef slot generation = some i → ¬ (d.slot i).awaits k = true

theorem Device.stale_of_none {k : RequestKind}
    (none : ∀ i : SlotNo, slot.toNat = i.val → (d.slot i).generation = generation →
      ∀ n f a, (d.slot i).request ≠ some { kind := k, place := .outstanding n, funds := f, amount := a }) :
    d.Stale slot generation k := by
  intro i matched awaits
  obtain ⟨number, same⟩ := Device.matchRef_eq_some_iff.mp matched
  obtain ⟨n, f, a, request⟩ := (Slot.awaits_iff _ k).mp awaits
  exact none i number same n f a request

theorem Device.takeRenewResult_of_stale (stale : d.Stale slot generation .renew) :
    d.takeRenewResult slot generation amount life = d := by
  unfold Device.takeRenewResult
  split
  · rfl
  · rename_i i matched
    exact if_neg (stale i matched)

theorem Device.takeCaptureDone_of_stale (stale : d.Stale slot generation .capture) :
    d.takeCaptureDone slot generation outcome = d := by
  unfold Device.takeCaptureDone
  split
  · rfl
  · rename_i i matched
    exact if_neg fun ⟨_, awaits⟩ => stale i matched awaits

theorem Device.takeVoidDone_of_stale (stale : d.Stale slot generation .void) : d.takeVoidDone slot generation = d := by
  unfold Device.takeVoidDone
  split
  · rfl
  · rename_i i matched
    exact if_neg fun ⟨_, awaits⟩ => stale i matched awaits

end

section
variable {d t : Device} (q : List Instr) {slot generation outcome life : Byte} {amount : Amount24}

theorem exec_renewResult (hears : d.HearsUplink) (taken : d.heardUplink.takeRenewResult slot generation amount life = t) :
    exec (.renewResult slot generation amount life) ⟨d, q⟩ = .next ⟨t, q⟩ :=
  taken ▸ State.onDevice_receiveUplink d q _ hears

theorem exec_captureDone (hears : d.HearsUplink) (taken : d.heardUplink.takeCaptureDone slot generation outcome = t) :
    exec (.captureDone slot generation outcome) ⟨d, q⟩ = .next ⟨t, q⟩ :=
  taken ▸ State.onDevice_receiveUplink d q _ hears

theorem exec_voidDone (hears : d.HearsUplink) (taken : d.heardUplink.takeVoidDone slot generation = t) :
    exec (.voidDone slot generation) ⟨d, q⟩ = .next ⟨t, q⟩ :=
  taken ▸ State.onDevice_receiveUplink d q _ hears

theorem exec_takeEnd (works : d.Works) (e : Expiry) (taken : d.takeEnd e = t) : exec e.command ⟨d, q⟩ = .next ⟨t, q⟩ :=
  taken ▸ exec_command d q e works

end

/-- Settles O38: a result or timeout that the slot awaits is the end of its final request; any other result finds no slot. -/
theorem finalRequestFreesSlot : Obligations.FinalRequestFreesSlot := by
  refine ⟨fun d q i n a f outcome => ⟨fun state request => ?captured, fun state request hears => ?voided,
    fun request works => ?timeout⟩, fun d q number generation life outcome amount hears => ?stale⟩
  case captured =>
    have awaits : (d.slot i).awaits .capture = true := (Slot.awaits_iff _ _).mpr ⟨n, f, a, request⟩
    have ends := Device.takeCaptureDone_of_awaited (d := d.heardUplink) (outcome := outcome)
      (Device.matchRef_of_same rfl) state awaits
    refine ⟨fun hears taken => ?_, fun hears refused => ?_⟩
    · have confirmed : (outcome != outcomeTaken) = false := by simp [outcomeTaken, taken]
      rw [confirmed, Device.endFinal_confirmed] at ends
      exact exec_captureDone q hears ends
    · have unconfirmed : (outcome != outcomeTaken) = true := by simp [outcomeTaken, refused]
      rw [unconfirmed, Device.endFinal_unconfirmed] at ends
      exact exec_captureDone q hears ends
  case voided =>
    have awaits : (d.slot i).awaits .void = true := (Slot.awaits_iff _ _).mpr ⟨n, f, a, request⟩
    have ends := Device.takeVoidDone_of_awaited (d := d.heardUplink) (Device.matchRef_of_same rfl) state awaits
    rw [Device.endFinal_confirmed] at ends
    exact exec_voidDone q hears ends
  case timeout =>
    have out : (d.slot i).timedOut .capture = true ∨ (d.slot i).timedOut .void = true :=
      request.imp (fun h => (Slot.timedOut_iff _ _).mpr ⟨f, a, h⟩) fun h => (Slot.timedOut_iff _ _).mpr ⟨f, a, h⟩
    have ends : d.takeFinalTimeout i = d.endFinal i true := if_pos out
    rw [Device.endFinal_unconfirmed] at ends
    exact exec_takeEnd q works (.final i) ends
  case stale =>
    refine ⟨fun none => ?_, fun none => ?_, fun none => ?_⟩
    · exact exec_renewResult q hears (Device.takeRenewResult_of_stale (Device.stale_of_none none))
    · exact exec_captureDone q hears (Device.takeCaptureDone_of_stale (Device.stale_of_none none))
    · exact exec_voidDone q hears (Device.takeVoidDone_of_stale (Device.stale_of_none none))

/-! ### The timers of a slot (R118, R120, R126) -/

/-- R126: a slot that awaits nothing more expires. -/
def Device.expired (d : Device) (i : SlotNo) : Device :=
  ((d.modSlot i fun s => { s with state := .expired }).ownerNotice i .holdExpired).payReport i .expiry

section
variable {d x : Device} {i : SlotNo} {k : RequestKind} {n a : Nat} {f : Bool}

@[simp] theorem Device.slot_expired : (d.expired i).slot i = { d.slot i with state := .expired } := by
  rw [Device.expired, Device.payReport_eq]
  exact d.slot_modSlot i _

theorem Device.OtherSlotsSame.expired : d.OtherSlotsSame (d.expired i) i := fun y other => by
  rw [Device.expired, Device.payReport_eq]
  exact d.slot_modSlot_ne i y _ other

/-- R126: the notice and the report name the owner that slot `i` had in `d`; its request has ended since. -/
theorem Device.expired_rest (ended : x.slot i = { d.slot i with request := none }) (notices : x.notices = d.notices)
    (reports : x.payReports = d.payReports) : x.expired i =
      { x with
        slots := (x.expired i).slots, notices := (d.notice .holdExpired (d.slot i).owner).notices
        payReports := d.reported i .expiry } := by
  let y := x.modSlot i fun s => { s with state := .expired }
  have slot : y.slot i = { d.slot i with state := .expired, request := none } := by rw [x.slot_modSlot, ended]
  have noticed : (y.ownerNotice i .holdExpired).notices = (d.notice .holdExpired (d.slot i).owner).notices := by
    rw [Device.ownerNotice, slot, Device.notices_notice, Device.notices_notice]
    exact congrArg (Notices.occur · .holdExpired (d.slot i).owner) notices
  have reported : (y.ownerNotice i .holdExpired).reported i .expiry = d.reported i .expiry := by
    have same : (y.ownerNotice i .holdExpired).slot i = { d.slot i with state := .expired, request := none } := slot
    exact Device.reported_congr (by rw [same]) (by rw [same]) reports
  have all : x.expired i = { y.ownerNotice i .holdExpired with payReports := d.reported i .expiry } := by
    rw [← reported]
    exact Device.payReport_eq _ i .expiry
  rw [all, ← noticed]
  rfl

theorem Device.expireSlot_of_none (request : (d.slot i).request = none) : d.expireSlot i = d.expired i := by
  simp only [Device.expireSlot, request, Device.expired]

theorem Device.expireSlot_of_queued
    (request : (d.slot i).request = some { kind := k, place := .queued, funds := f, amount := a }) :
    d.expireSlot i = (d.withdrawQueued i).expired i := by
  simp only [Device.expireSlot, request, Device.expired]

theorem Device.expireSlot_of_outstanding
    (request : (d.slot i).request = some { kind := k, place := .outstanding n, funds := f, amount := a }) :
    d.expireSlot i = (d.endOutstanding i).expired i := by
  simp only [Device.expireSlot, request, Device.expired]

end

/-- Settles O39: the timer that stands at 0 runs out; what the expiry ends depends on the place of the slot's request. -/
theorem slotTimersRunOut : Obligations.SlotTimersRunOut := by
  intro d q i works
  refine ⟨fun f a state request => ?auth, fun state timer => ?lapse, fun state lifetime => ?expiry⟩
  case auth =>
    have out : (d.slot i).timedOut .auth = true := (Slot.timedOut_iff _ _).mpr ⟨f, a, request⟩
    have ends : d.takeAuthTimeout i = _ := (if_pos ⟨state, out⟩).trans Device.lapseReported_eq
    refine ⟨_, exec_takeEnd q works (.auth i) ends, rfl, ?_, Device.OtherSlotsSame.requestEnded⟩
    exact Device.slot_requestEnded
  case lapse =>
    have ends : d.takeLapseExpiry i = d.freeSlot i := if_pos ⟨state, timer⟩
    exact exec_takeEnd q works (.lapse i) ends
  case expiry =>
    have ends : d.takeHoldExpiry i = d.expireSlot i := if_pos ⟨state, lifetime⟩
    have taken : ∀ t, d.expireSlot i = t → exec (.holdExpiry i) ⟨d, q⟩ = .next ⟨t, q⟩ :=
      fun t expires => exec_takeEnd q works (.hold i) (ends.trans expires)
    refine ⟨fun request => ?_, fun k f a request => ?_, fun k n f a request => ?_⟩
    · have slot : d.slot i = { d.slot i with request := none } := by rw [← request]
      refine ⟨_, taken _ (Device.expireSlot_of_none request), ⟨?_, Device.OtherSlotsSame.expired⟩,
        Device.expired_rest slot rfl rfl⟩
      rw [Device.slot_expired, ← request]
    · refine ⟨_, taken _ (Device.expireSlot_of_queued request), ⟨?_, fun x other => ?_⟩,
        Device.expired_rest Device.slot_withdrawQueued rfl rfl⟩
      · rw [Device.slot_expired, Device.slot_withdrawQueued]
      · exact (Device.OtherSlotsSame.expired x other).trans (Device.slot_withdrawQueued_ne other)
    · refine ⟨_, taken _ (Device.expireSlot_of_outstanding request), ⟨?_, fun x other => ?_⟩,
        Device.expired_rest Device.slot_endOutstanding rfl rfl⟩
      · rw [Device.slot_expired, Device.slot_endOutstanding]
      · exact (Device.OtherSlotsSame.expired x other).trans (Device.slot_endOutstanding_ne other)

end Sys2Proof.Machine
end

section
/-! PROOF. The results of a renewal (O37) and of an authorization (O36). -/

namespace Sys2Proof.Machine

/-! ### The end of a renewal (R124, R125, R129) -/

section
variable {d : Device} {i : SlotNo} {slot generation life : Byte} {amount : Amount24} {marked : Bool} {w : FinalRequest}

theorem Device.takeRenewResult_of_renewing (matched : d.matchRef slot generation = some i)
    (awaits : (d.slot i).awaits .renew = true) (state : (d.slot i).state = .renewing) :
    d.takeRenewResult slot generation amount life = d.renewResultAt i amount.toNat life := by
  simp only [Device.takeRenewResult, matched, awaits, state, if_true]

theorem Device.takeRenewResult_of_final (matched : d.matchRef slot generation = some i)
    (awaits : (d.slot i).awaits .renew = true) (state : (d.slot i).state = .capturing ∨ (d.slot i).state = .voiding) :
    d.takeRenewResult slot generation amount life = d.releaseFinal i := by
  obtain state | state := state
  · simp only [Device.takeRenewResult, matched, awaits, state, if_true]
  · simp only [Device.takeRenewResult, matched, awaits, state, if_true]

theorem Device.takeRenewTimeout_of_renewing (out : (d.slot i).timedOut .renew = true) (state : (d.slot i).state = .renewing) :
    d.takeRenewTimeout i = d.refuseRenewal i := by
  simp only [Device.takeRenewTimeout, out, state, if_true]

theorem Device.takeRenewTimeout_of_final (out : (d.slot i).timedOut .renew = true)
    (state : (d.slot i).state = .capturing ∨ (d.slot i).state = .voiding) : d.takeRenewTimeout i = d.releaseFinal i := by
  obtain state | state := state
  · simp only [Device.takeRenewTimeout, out, state, if_true]
  · simp only [Device.takeRenewTimeout, out, state, if_true]

theorem Device.renewResultAt_of_sufficient {approved : Nat} (positive : 0 < approved)
    (enough : (d.slot i).approved ≤ approved) : d.renewResultAt i approved life = d.approveRenewal i approved life :=
  if_pos ⟨positive, enough⟩

theorem Device.renewResultAt_of_insufficient {approved : Nat} (refused : approved = 0 ∨ approved < (d.slot i).approved) :
    d.renewResultAt i approved life = d.refuseRenewal i := if_neg (by omega)

theorem Device.approveRenewal_of_marked {approved : Nat} (funds : (d.slot i).fundsMarked = marked) :
    d.approveRenewal i approved life = (d.requestEnded i (fun s => s.renewed approved life)
      (d.reportedIf marked i .renewalApproval)).lifetimeTest i := by
  rw [Device.approveRenewal_eq, funds]

/-- R124, R125: what a refused renewal leaves. -/
theorem Device.refuseRenewal_refused (funds : (d.slot i).fundsMarked = marked) :
    d.refuseRenewal i = { d with
      slots := (d.refuseRenewal i).slots, outstanding := d.outstanding - 1, payReports := d.reportedIf marked i .renewalRefusal } ∧
    (d.refuseRenewal i).slot i = { d.slot i with state := .active, request := none, renewalsRefused := true } ∧
    d.OtherSlotsSame (d.refuseRenewal i) i := by
  rw [Device.refuseRenewal_eq, funds]
  exact ⟨rfl, Device.slot_requestEnded, Device.OtherSlotsSame.requestEnded⟩

/-- R129: what is left when the renewal that a final request waited for has ended. -/
theorem Device.releaseFinal_released (waits : (d.slot i).finalWaiting = some w) :
    d.releaseFinal i = { d with
      slots := (d.releaseFinal i).slots, outstanding := d.outstanding - 1
      payQueue := d.payQueue ++ [{ ref := d.slotRef i, kind := w.kind }] } ∧
    (d.releaseFinal i).slot i = { d.slot i with
      state := w.slotState, finalWaiting := none
      request := some { kind := w.kind, place := .queued, funds := false, amount := w.amount } } ∧
    d.OtherSlotsSame (d.releaseFinal i) i := by
  rw [Device.releaseFinal_eq waits]
  let x := d.requestEnded i (fun s => { s with request := none, finalWaiting := none }) d.payReports
  have ref : x.slotRef i = d.slotRef i := by simp [x, Device.slotRef]
  have queue : (x.queueFinal i w).payQueue = d.payQueue ++ [{ ref := d.slotRef i, kind := w.kind }] := by
    rw [Device.payQueue_queueFinal, ref]
    rfl
  refine ⟨?_, by simp, fun y other => ?_⟩
  · rw [← queue]
    exact x.queueFinal_rest i w
  · rw [Device.slot_queueFinal_ne w other]
    exact Device.OtherSlotsSame.requestEnded y other

end

/-- Settles O37: in RENEWING a result approves or refuses and a timeout refuses; behind a final request both release it. -/
theorem renewalEnds : Obligations.RenewalEnds := by
  intro d q i amount life n a f
  dsimp only
  intro request
  have awaits : (d.slot i).awaits .renew = true := (Slot.awaits_iff _ _).mpr ⟨n, f, a, request⟩
  have marked : (d.slot i).fundsMarked = f := Slot.fundsMarked_of_request request
  have out : n = 0 → (d.slot i).timedOut .renew = true := fun zero => (Slot.timedOut_iff _ _).mpr ⟨f, a, zero ▸ request⟩
  have matched : d.heardUplink.matchRef (BitVec.ofNat 8 i.val) (d.slot i).generation = some i := Device.matchRef_of_same rfl
  refine ⟨fun hears state positive enough => ?approved, fun hears state low => ?refused, fun works state zero => ?timeout,
    fun w hears state waits => ?released, fun w works zero state waits => ?timeoutReleased⟩
  case approved =>
    have ends := ((Device.takeRenewResult_of_renewing (life := life) matched awaits state).trans
      (Device.renewResultAt_of_sufficient positive enough)).trans (Device.approveRenewal_of_marked marked)
    exact ⟨_, exec_renewResult q hears ends, d.heardUplink.requestEnded_lifetimeTest i _ rfl rfl rfl rfl⟩
  case refused =>
    have ends := (Device.takeRenewResult_of_renewing (amount := amount) (life := life) matched awaits state).trans
      (Device.renewResultAt_of_insufficient low)
    exact ⟨_, exec_renewResult q hears ends, Device.refuseRenewal_refused (d := d.heardUplink) marked⟩
  case timeout =>
    exact ⟨_, exec_takeEnd q works (.renew i) (Device.takeRenewTimeout_of_renewing (out zero) state),
      Device.refuseRenewal_refused marked⟩
  case released =>
    have ends := Device.takeRenewResult_of_final (amount := amount) (life := life) matched awaits state
    exact ⟨_, exec_renewResult q hears ends, Device.releaseFinal_released (d := d.heardUplink) waits⟩
  case timeoutReleased =>
    exact ⟨_, exec_takeEnd q works (.renew i) (Device.takeRenewTimeout_of_final (out zero) state),
      Device.releaseFinal_released waits⟩

/-! ### An AUTH_RESULT (R113, R114, R116, R117, R120) -/

section
variable {d t : Device} {i : SlotNo} {generation life : Byte} {amount : Amount24} {approved : Nat} {ref : Reference}
  {reference approving : Option Reference}

theorem approvingReference_of_amount (positive : amount ≠ 0) : approvingReference amount reference = reference :=
  if_neg positive

theorem approvingReference_zero : approvingReference 0 reference = none := rfl

theorem approvingReference_none (amount : Amount24) : approvingReference amount none = none := ite_self none

theorem Device.takeAuthResult_of_taken (same : (d.slot i).generation = generation)
    (approves : approvingReference amount reference = approving)
    (taken : d.authResultAt i amount.toNat life approving = some t) :
    d.takeAuthResult (BitVec.ofNat 8 i.val) generation amount life reference = t := by
  simp only [Device.takeAuthResult, approves, Device.matchRef_of_same same, Option.bind_some, taken]

/-- R113: a result is stale if it is of an earlier use of the slot or the slot awaits none. -/
theorem Device.takeAuthResult_of_stale (approves : approvingReference amount reference = approving)
    (stale : (d.slot i).generation ≠ generation ∨ d.authResultAt i amount.toNat life approving = none) :
    d.takeAuthResult (BitVec.ofNat 8 i.val) generation amount life reference =
      d.staleAuth (BitVec.ofNat 8 i.val) generation approving := by
  by_cases same : (d.slot i).generation = generation
  · have idle := stale.resolve_left (absurd same)
    simp only [Device.takeAuthResult, approves, Device.matchRef_of_same same, Option.bind_some, idle]
  · simp only [Device.takeAuthResult, approves, Device.matchRef_of_other same, Option.bind_none]

theorem Device.authResultAt_approves (state : (d.slot i).state = .authorizing) (awaits : (d.slot i).awaits .auth = true) :
    d.authResultAt i approved life (some ref) = some ((d.requestEnded i (fun s => s.authorized ref approved life)
      (d.reported i .approval)).lifetimeTest i) := by
  rw [← Device.approveAuth_eq]
  exact if_pos ⟨state, awaits⟩

theorem Device.authResultAt_declines (state : (d.slot i).state = .authorizing) (awaits : (d.slot i).awaits .auth = true) :
    d.authResultAt i approved life none =
      some (d.requestEnded i (fun s => Slot.freed s.generation) (d.reported i .decline)) := by
  rw [← Device.declineAuth_eq]
  exact if_pos ⟨state, awaits⟩

/-- R120: a LAPSED slot voids a late approval. -/
theorem Device.authResultAt_voids (lapsed : (d.slot i).state = .lapsed) :
    d.authResultAt i approved life (some ref) = some (d.voidLate i ref) :=
  (if_neg fun ⟨authorizing, _⟩ => nomatch lapsed.symm.trans authorizing).trans (if_pos lapsed)

/-- R120: a LAPSED slot is freed by a late decline. -/
theorem Device.authResultAt_frees (lapsed : (d.slot i).state = .lapsed) :
    d.authResultAt i approved life none = some (d.freeSlot i) :=
  (if_neg fun ⟨authorizing, _⟩ => nomatch lapsed.symm.trans authorizing).trans (if_pos lapsed)

theorem Device.authResultAt_of_other (notAuthorizing : (d.slot i).state ≠ .authorizing) (notLapsed : (d.slot i).state ≠ .lapsed) :
    d.authResultAt i approved life approving = none :=
  (if_neg fun ⟨authorizing, _⟩ => notAuthorizing authorizing).trans (if_neg notLapsed)

/-- R113: the repeat of the approval that the slot holds is discarded. -/
theorem Device.staleAuth_of_held (same : (d.slot i).generation = generation) (held : (d.slot i).reference = some ref) :
    d.staleAuth (BitVec.ofNat 8 i.val) generation (some ref) = d := by
  simp only [Device.staleAuth, Device.matchRef_of_same same, held, if_true]

theorem Device.staleAuth_of_unheld (unheld : (d.slot i).generation ≠ generation ∨ (d.slot i).reference ≠ some ref) :
    d.staleAuth (BitVec.ofNat 8 i.val) generation (some ref) = d.staleApproval ref := by
  by_cases same : (d.slot i).generation = generation
  · have other := unheld.resolve_left (absurd same)
    simp only [Device.staleAuth, Device.matchRef_of_same same, other, if_false]
  · simp only [Device.staleAuth, Device.matchRef_of_other same]

theorem Device.staleApproval_of_room (room : d.staleVoids.length < 4) :
    d.staleApproval ref = { d with staleVoids := d.staleVoids ++ [ref] } := if_neg (Nat.not_le.mpr room)

theorem Device.staleApproval_of_full (full : 4 ≤ d.staleVoids.length) :
    d.staleApproval ref = d.notice .paymentUnconfirmed none := if_pos full

/-- R120: what a late approval leaves. -/
theorem Device.voidLate_queued (d : Device) (i : SlotNo) (ref : Reference) :
    d.voidLate i ref = { d with
      slots := (d.voidLate i ref).slots, payQueue := d.payQueue ++ [{ ref := d.slotRef i, kind := .void }] } ∧
    (d.voidLate i ref).slot i = { d.slot i with
      state := .voiding, lapseTimer := none, reference := some ref
      request := some { kind := .void, place := .queued, funds := false, amount := 0 } } ∧
    d.OtherSlotsSame (d.voidLate i ref) i := by
  let x := d.modSlot i fun s => { s with lapseTimer := none, reference := some ref }
  have late : d.voidLate i ref = x.queueFinal i .void := rfl
  have slotRef : x.slotRef i = d.slotRef i := by simp [x, Device.slotRef]
  have queue : (x.queueFinal i .void).payQueue = d.payQueue ++ [{ ref := d.slotRef i, kind := .void }] := by
    rw [Device.payQueue_queueFinal, slotRef]
    rfl
  rw [late]
  refine ⟨?_, ?_, fun y other => ?_⟩
  · rw [← queue]
    exact x.queueFinal_rest i .void
  · simp [x, FinalRequest.slotState, FinalRequest.kind, FinalRequest.amount]
  · exact (Device.slot_queueFinal_ne _ other).trans (d.slot_modSlot_ne i y _ other)

end

theorem exec_authResult {d t : Device} (q : List Instr) {slot generation life : Byte} {amount : Amount24}
    {reference : Option Reference} (hears : d.HearsUplink)
    (taken : d.heardUplink.takeAuthResult slot generation amount life reference = t) :
    exec (.authResult slot generation amount life reference) ⟨d, q⟩ = .next ⟨t, q⟩ :=
  taken ▸ State.onDevice_receiveUplink d q _ hears

/-- Settles O36: a slot in AUTHORIZING takes the result it awaits, a LAPSED one a late result; in every other state, and for
another generation, the result is stale. -/
theorem authResultIsTaken : Obligations.AuthResultIsTaken := by
  intro d q i generation amount life ref hears
  refine ⟨fun n f a same state request => ?matched, fun same lapsed => ?late, fun stale => ?stale⟩
  case matched =>
    have awaits : (d.slot i).awaits .auth = true := (Slot.awaits_iff _ _).mpr ⟨n, f, a, request⟩
    have declines := Device.authResultAt_declines (d := d.heardUplink) (approved := amount.toNat) (life := life) state awaits
    have declined : ∀ {reference}, approvingReference amount reference = none →
        exec (.authResult (BitVec.ofNat 8 i.val) generation amount life reference) ⟨d, q⟩ = .next ⟨_, q⟩ :=
      fun approves => exec_authResult q hears (Device.takeAuthResult_of_taken same approves declines)
    refine ⟨fun positive => ?_, ⟨_, declined (approvingReference_none amount), rfl, Device.slot_requestEnded,
      Device.OtherSlotsSame.requestEnded⟩, fun zero => ?_⟩
    · have approves := Device.authResultAt_approves (d := d.heardUplink) (ref := ref) (approved := amount.toNat) (life := life)
        state awaits
      obtain ⟨rest, others, long, short⟩ := d.heardUplink.requestEnded_lifetimeTest i
        (f := fun s => s.authorized ref amount.toNat life) (d.heardUplink.reported i .approval) rfl rfl rfl rfl
      exact ⟨_, exec_authResult q hears (Device.takeAuthResult_of_taken same (approvingReference_of_amount positive) approves),
        rest, others, fun above => long (.inl above), fun within => short within rfl⟩
    · exact (declined (by rw [zero, approvingReference_zero])).trans (declined (approvingReference_none amount)).symm
  case late =>
    refine ⟨fun positive => ?_, ?_⟩
    · exact ⟨_, exec_authResult q hears (Device.takeAuthResult_of_taken same (approvingReference_of_amount positive)
        (Device.authResultAt_voids lapsed)), d.heardUplink.voidLate_queued i ref⟩
    · exact exec_authResult q hears (Device.takeAuthResult_of_taken same (approvingReference_none amount)
        (Device.authResultAt_frees lapsed))
  case stale =>
    have unasked : ∀ approving, (d.heardUplink.slot i).generation ≠ generation ∨
        d.heardUplink.authResultAt i amount.toNat life approving = none := by
      refine fun approving => stale.imp_right fun state => Device.authResultAt_of_other (d := d.heardUplink) ?_ ?_
      · rintro (authorizing : (d.slot i).state = .authorizing)
        simp [authorizing] at state
      · rintro (lapsed : (d.slot i).state = .lapsed)
        simp [lapsed] at state
    have passed : ∀ {reference approving t}, approvingReference amount reference = approving →
        d.heardUplink.staleAuth (BitVec.ofNat 8 i.val) generation approving = t →
        exec (.authResult (BitVec.ofNat 8 i.val) generation amount life reference) ⟨d, q⟩ = .next ⟨t, q⟩ := by
      intro reference approving t approves left
      have discarded := Device.takeAuthResult_of_stale approves (unasked approving)
      exact exec_authResult q hears (discarded.trans left)
    refine ⟨passed (approvingReference_none amount) rfl, fun same held => ?_, fun positive unheld => ⟨fun room => ?_, fun full => ?_⟩⟩
    · by_cases zero : amount = 0
      · exact passed (by rw [zero, approvingReference_zero]) rfl
      · exact passed (approvingReference_of_amount zero) (Device.staleAuth_of_held same held)
    · exact passed (approvingReference_of_amount positive)
        ((Device.staleAuth_of_unheld (d := d.heardUplink) unheld).trans (Device.staleApproval_of_room room))
    · exact passed (approvingReference_of_amount positive)
        ((Device.staleAuth_of_unheld (d := d.heardUplink) unheld).trans (Device.staleApproval_of_full full))

end Sys2Proof.Machine
end

section
/-! PROOF. UPLINK_FRAME_SENT (O35): the transmitter becomes FREE (R165), and the sent frame's source does its work: a REPLY (R175,
R190), a SESSION_REPORT (R146, R147), a BILL (R139) and the EXPORT_END (R140). -/

namespace Sys2Proof.Machine

/-! ### The report of a sent frame (R165) -/

/-- R165: the transmitter has put its frame on the line. -/
def Device.transmitterFreed (d : Device) : Device := d.modUplink fun u => { u with transmitter := .free }

section
variable {d t : Device} {source : Source} {frame : UplinkFrame}

theorem Device.takeUplinkSent_of_holding (carrier : d.uplink.carrier = true)
    (holds : d.uplink.transmitter = .holding source frame) : d.takeUplinkSent = d.transmitterFreed.sourceSent source := by
  simp only [Device.takeUplinkSent, holds, carrier, if_true]
  rfl

theorem exec_uplinkFrameSent (q : List Instr) (works : d.Works) (carrier : d.uplink.carrier = true)
    (holds : d.uplink.transmitter = .holding source frame) (sent : d.transmitterFreed.sourceSent source = t) :
    exec .uplinkFrameSent ⟨d, q⟩ = .next ⟨t, q⟩ := by
  have taken := (Device.takeUplinkSent_of_holding carrier holds).trans sent
  exact taken ▸ State.onDevice_running d q Device.takeUplinkSent works

end

/-! ### A REPLY (R160, R175, R190) -/

section
variable {d : Device} {r : Reply} {rest : List Reply}

/-- R160: the sent reply leaves its queue. -/
theorem Device.replySent_of_staying (replies : d.mgmt.replies = r :: rest) (stays : d.mgmt.restartTaken = false ∨ rest ≠ []) :
    d.replySent = { d with mgmt := { d.mgmt with replies := rest } } := by
  have left : ¬ (d.mgmt.restartTaken = true ∧ rest = []) := fun ⟨restart, last⟩ =>
    stays.elim (fun untaken => nomatch untaken.symm.trans restart) (· last)
  simp only [Device.replySent, replies, List.tail_cons, if_neg left]

/-- R190: the last reply while restart is taken is the reply to RESTART (log 15). -/
theorem Device.replySent_of_restart (replies : d.mgmt.replies = [r]) (restart : d.mgmt.restartTaken = true) :
    d.replySent = Device.powerOn d.carrierDetect d.uplinkDetect d.freeCount := by
  simp only [Device.replySent, replies, List.tail_cons, restart, and_self, if_true]
  rfl

end

/-! ### A SESSION_REPORT (R146, R147) -/

theorem Context.tellRoom_eq (c : Context) :
    c.tellRoom = { c with roomTold := if c.state = .closing ∧ c.job = none then true else c.roomTold } := by
  unfold Context.tellRoom
  split <;> rfl

/-- R147: the room is told to every station that waits for it. -/
theorem Device.ctx_reportSent (d : Device) (st : Station) : d.reportSent.ctx st = { d.ctx st with
    roomTold := if (d.ctx st).state = .closing ∧ (d.ctx st).job = none then true else (d.ctx st).roomTold } :=
  (Vector.getElem_map Context.tellRoom st.isLt).trans (Context.tellRoom_eq _)

/-! ### A frame of the export (R137 to R140) -/

section
variable {d : Device} {n sent : Nat} {period : Half} {record : PeriodRecord} {a : Account}

theorem Device.exportFrameSent_of_bill (built : d.exporting.frame = some (.bill period n record)) :
    d.exportFrameSent = d.billSent n := by
  simp only [Device.exportFrameSent, built]

theorem Device.exportFrameSent_of_finish (built : d.exporting.frame = some (.finish period sent)) :
    d.exportFrameSent = d.exportEndSent := by
  simp only [Device.exportFrameSent, built]

/-- R140: with no bill left the walk builds the EXPORT_END. -/
theorem Device.walkStep_frame_of_none (none : nextBill d.exporting.cursor d.accounts = none) :
    d.walkStep.exporting.frame = some (.finish d.exporting.exportedPeriod d.exporting.billsSent) := by
  simp only [Device.walkStep, none]

/-- R137, R138: the walk builds the BILL of the entry it comes to. -/
theorem Device.walkStep_frame_of_some (next : nextBill d.exporting.cursor d.accounts = some a) :
    d.walkStep.exporting.frame = some (.bill d.exporting.exportedPeriod a.number a.closedRecord) := by
  simp only [Device.walkStep, next]

/-- R139: the entry's CLOSED record is erased, the cursor comes to it and the bill is counted. -/
def Device.billed (d : Device) (n : Nat) : Device :=
  { d.modAccount n fun a => { a with closedRecord := .zero } with
    exporting := { d.exporting with cursor := n, billsSent := d.exporting.billsSent + 1, frame := none } }

theorem Device.billSent_eq (d : Device) (n : Nat) : d.billSent n = (d.billed n).walkStep := rfl

/-- R139: what a sent BILL leaves, but for the frame that the walk builds next. -/
theorem Device.billSent_rest (d : Device) (n : Nat) : d.billSent n =
    { d with accounts := (d.billSent n).accounts, exporting := (d.billSent n).exporting } := rfl

theorem Device.exporting_billSent (d : Device) (n : Nat) : (d.billSent n).exporting = { d.exporting with
    cursor := n, billsSent := d.exporting.billsSent + 1, frame := (d.billSent n).exporting.frame } := rfl

/-- R139: the CLOSED record of the billed entry is erased. -/
theorem Device.account_billSent (known : d.account n = some a) :
    (d.billSent n).account n = some { a with closedRecord := .zero } :=
  (d.account_modAccount n (fun a => { a with closedRecord := .zero }) fun _ => rfl).trans (congrArg _ known)

theorem Device.account_billSent_ne (d : Device) {m : Nat} (other : m ≠ n) : (d.billSent n).account m = d.account m :=
  d.account_modAccount_ne n m (fun a => { a with closedRecord := .zero }) (fun _ => rfl) other

/-- R137, R140: the walk ends at the last entry with a CLOSED record. -/
theorem Device.billSent_frame_of_last
    (zero : ∀ a ∈ (d.billSent n).accounts, n < a.number → a.closedRecord = .zero) :
    (d.billSent n).exporting.frame = some (.finish d.exporting.exportedPeriod (d.exporting.billsSent + 1)) :=
  Device.walkStep_frame_of_none (d := d.billed n) (nextBill_eq_none zero)

/-- R137, R138: the walk goes on to the next entry with a CLOSED record. -/
theorem Device.billSent_frame_of_next {before behind : List Account}
    (table : (d.billSent n).accounts = before ++ a :: behind) (above : n < a.number) (bill : a.closedRecord ≠ .zero)
    (zero : ∀ b ∈ before, n < b.number → b.closedRecord = .zero) :
    (d.billSent n).exporting.frame = some (.bill d.exporting.exportedPeriod a.number a.closedRecord) := by
  have next : nextBill (d.billed n).exporting.cursor (d.billed n).accounts = some a := by
    rw [show (d.billed n).accounts = before ++ a :: behind from table]
    exact nextBill_append_cons above bill zero
  exact Device.walkStep_frame_of_some next

end

/-- Settles O35: the source of the held frame is told that it has been sent. -/
theorem sentUplinkFrameIsReported : Obligations.SentUplinkFrameIsReported := by
  intro d q frame works carrier
  have reported : ∀ {source t}, d.uplink.transmitter = .holding source frame →
      d.transmitterFreed.sourceSent source = t → exec .uplinkFrameSent ⟨d, q⟩ = .next ⟨t, q⟩ :=
    exec_uplinkFrameSent q works carrier
  refine ⟨fun r rest holds replies => ⟨fun stays => ?staying, fun restart last => ?restart⟩, fun holds => ?unchanged,
    fun r rest holds reports => ?sessionReport, fun i rest holds texts => ?serviceUp,
    fun p n r holds built => ?bill, fun p n holds built => ?exportEnd⟩
  case staying =>
    exact reported holds (Device.replySent_of_staying (d := d.transmitterFreed) replies stays)
  case restart =>
    subst last
    exact reported holds (Device.replySent_of_restart (d := d.transmitterFreed) replies restart)
  case unchanged =>
    obtain payment | notice := holds
    · exact reported payment rfl
    · exact reported notice rfl
  case sessionReport =>
    refine ⟨d.transmitterFreed.reportSent, reported holds rfl, ?_, d.transmitterFreed.ctx_reportSent⟩
    rw [show rest = d.reports.tail by rw [reports, List.tail_cons]]
    rfl
  case serviceUp =>
    rw [show rest = d.serviceUp.tail by rw [texts, List.tail_cons]]
    exact reported holds rfl
  case bill =>
    have sent := Device.exportFrameSent_of_bill (d := d.transmitterFreed) built
    exact ⟨_, reported holds sent, d.transmitterFreed.billSent_rest n, fun a known => Device.account_billSent known,
      fun m other => d.transmitterFreed.account_billSent_ne other, d.transmitterFreed.exporting_billSent n,
      Device.billSent_frame_of_last, fun _ _ _ => Device.billSent_frame_of_next⟩
  case exportEnd =>
    exact reported holds (Device.exportFrameSent_of_finish (d := d.transmitterFreed) built)

end Sys2Proof.Machine
end

section
/-! PROOF. RESET (R168): the power-on values at its release (O3), and the part while it is asserted (O4). -/

namespace Sys2Proof.Machine

/-! ### The release of RESET -/

theorem Device.slot_powerOn (pins : Vector Bool 16) (up : Bool) (n : Nat) (i : SlotNo) :
    (Device.powerOn pins up n).slot i = Slot.freed 0 := by
  simp [Device.slot, Device.powerOn]

theorem Device.configs_powerOn (pins : Vector Bool 16) (up : Bool) (n : Nat) (st : Station) :
    (Device.powerOn pins up n).configs[st] = .defaults := by
  simp [Device.powerOn]

/-- R191: after reset no notice class is pending or enabled, and none has a last station. -/
theorem Device.notices_powerOn (pins : Vector Bool 16) (up : Bool) (n : Nat) (c : Fin 12) :
    let u := (Device.powerOn pins up n).notices
    u.pending[c] = false ∧ u.enabled[c] = false ∧ u.lastStation[c] = none := by
  simp [Device.powerOn]

theorem exec_resetReleased {d : Device} (q : List Instr) (reset : d.resetAsserted = true) :
    exec .resetReleased ⟨d, q⟩ = .next ⟨Device.powerOn d.carrierDetect d.uplinkDetect d.freeCount, q⟩ :=
  congrArg (fun t : Device => Host.Outcome.next (⟨t, q⟩ : State)) (if_pos reset)

/-- Settles O3: the part after the release is the power-on state with the inputs as they are. -/
theorem releaseOfResetLeavesPowerOnValues : Obligations.ReleaseOfResetLeavesPowerOnValues := by
  intro d q reset
  refine ⟨_, exec_resetReleased q reset, rfl, fun st => ?station, rfl, rfl, rfl, rfl, rfl, rfl, rfl, rfl, rfl, rfl,
    Device.slot_powerOn _ _ _, rfl, rfl, rfl, rfl, rfl, rfl, Device.notices_powerOn _ _ _, rfl, rfl, rfl, rfl⟩
  rw [Device.ctx_powerOn, Device.path_powerOn, Device.port_powerOn, Device.configs_powerOn]
  exact ⟨rfl, rfl, rfl, rfl, rfl, rfl, rfl, rfl, rfl, rfl, rfl, rfl, rfl⟩

/-! ### Commands without an effect -/

section
variable {d : Device} {q : List Instr}

theorem next_of_unchanged {t : Device} (unchanged : t = d) :
    (.next ⟨t, q⟩ : Host.Outcome State Fault Refusal) = .next ⟨d, q⟩ :=
  congrArg (fun t : Device => Host.Outcome.next (⟨t, q⟩ : State)) unchanged

/-- A frame whose length or kind decides how it is taken has no effect if it has none either way. -/
theorem Device.ite_unchanged {p : Prop} [Decidable p] {t u : Device} (left : t = d) (right : u = d) :
    (if p then t else u) = d := by
  split <;> assumption

/-- R151, R152, R168: a station frame acts through the receiver of its port alone, so it has no effect where that receiver
takes nothing. -/
theorem exec_of_deaf_port {c : Instr} {st : Station} (frame : c.frameOf = some st) (deaf : ∀ f, d.receiveStation st f = d) :
    exec c ⟨d, q⟩ = .next ⟨d, q⟩ := by
  cases c with
  | start | feed | exit | stop | keyin | logout | cardOut | stationBadFrame =>
    obtain rfl := Option.some.inj frame
    exact next_of_unchanged (deaf _)
  | jam | clear | service | card =>
    obtain rfl := Option.some.inj frame
    exact next_of_unchanged (Device.ite_unchanged (deaf _) (deaf _))
  | stationUnroutedFrame =>
    obtain rfl := Option.some.inj frame
    exact next_of_unchanged (Device.ite_unchanged rfl (deaf _))
  | _ => cases frame

/-- R162, R168: an uplink frame acts through the uplink's receiver alone, so it has no effect where that receiver takes nothing. -/
theorem exec_of_deaf_uplink {c : Instr} (frame : c.onUplink = true) (deaf : ∀ f, d.receiveUplink f = d) :
    exec c ⟨d, q⟩ = .next ⟨d, q⟩ := by
  cases c with
  | authResult | renewResult | captureDone | voidDone | uplinkBadFrame => exact next_of_unchanged (deaf _)
  | textDown | mgmt => exact next_of_unchanged (Device.ite_unchanged (deaf _) (deaf _))
  | uplinkUnroutedFrame => exact next_of_unchanged (Device.ite_unchanged rfl (deaf _))
  | _ => cases frame

/-! ### RESET asserted -/

/-- R168: every command but a change of an input stands behind the guard of RESET. -/
theorem exec_of_reset (c : Instr) (reset : d.resetAsserted = true)
    (stations : ∀ st, c ≠ .stationCarrierLoss st ∧ c ≠ .stationCarrierReturn st) (loss : c ≠ .uplinkCarrierLoss)
    (back : c ≠ .uplinkCarrierReturn) (asserted : c ≠ .resetAsserted) (released : c ≠ .resetReleased) :
    exec c ⟨d, q⟩ = .next ⟨d, q⟩ := by
  cases c with
  | stationCarrierLoss st => exact absurd rfl (stations st).1
  | stationCarrierReturn st => exact absurd rfl (stations st).2
  | uplinkCarrierLoss => exact absurd rfl loss
  | uplinkCarrierReturn => exact absurd rfl back
  | resetAsserted => exact absurd rfl asserted
  | resetReleased => exact absurd rfl released
  | start | feed | exit | jam | clear | stop | keyin | logout | service | card | cardOut | stationBadFrame
  | stationUnroutedFrame => exact exec_of_deaf_port rfl fun _ => d.running_of_reset _ reset
  | authResult | renewResult | captureDone | voidDone | textDown | mgmt | uplinkBadFrame | uplinkUnroutedFrame =>
    exact exec_of_deaf_uplink rfl fun _ => d.running_of_reset _ reset
  | _ => exact next_of_unchanged (d.running_of_reset _ reset)

end

theorem Device.port_assertReset (d : Device) (st : Station) : d.assertReset.port st = (d.port st).quiet := by
  simp [Device.assertReset, Device.port]

/-- Settles O4: RESET makes each port quiet, and while it is asserted the guard stops every command but an input's. -/
theorem resetSilencesThePart : Obligations.ResetSilencesThePart := by
  refine ⟨fun d q => ⟨d.assertReset, rfl, rfl, fun st => ?_, rfl, rfl, rfl, rfl⟩, fun c d q => exec_of_reset c⟩
  rw [Device.port_assertReset]
  exact ⟨rfl, rfl⟩

end Sys2Proof.Machine
end

section
/-! PROOF. The line of a station (R150 to R154): frames toward it (O5) and texts from the uplink (O19, R161), and the turns that its
receiver and its transmitter take (O7). -/

namespace Sys2Proof.Machine

/-! ### Frames toward a station -/

section
variable {d : Device} {st : Station} {f : StationFrame}

theorem Device.send_of_absent (absent : (d.port st).carrier = false) : d.send st f = d := if_pos absent

theorem Device.send_of_full (present : (d.port st).carrier = true)
    (full : Config.ownQueueCapacity ≤ (d.port st).ownQueue.length) : d.send st f = d.notice .link (some st) := by
  rw [Device.send, if_neg (Bool.not_eq_false _ ▸ present), if_pos full]

theorem Device.send_of_room (present : (d.port st).carrier = true)
    (room : (d.port st).ownQueue.length < Config.ownQueueCapacity) :
    d.send st f = d.modPort st fun p => { p with ownQueue := p.ownQueue ++ [f] } := by
  rw [Device.send, if_neg (Bool.not_eq_false _ ▸ present), if_neg (Nat.not_le.mpr room)]

end

/-- Settles O5, by the carrier and the room in the own-frame queue. -/
theorem framesJoinTheOwnQueue : Obligations.FramesJoinTheOwnQueue :=
  fun _ _ _ => ⟨fun absent => Device.send_of_absent absent, fun present room => Device.send_of_room present room,
    fun present full => Device.send_of_full present full⟩

/-! ### Texts from the uplink -/

section
variable {d : Device} {st : Station} {text : List Byte}

theorem Device.queueText_of_absent (absent : (d.port st).carrier = false) : d.queueText st text = d := if_pos absent

theorem Device.queueText_of_full (present : (d.port st).carrier = true)
    (full : Config.textQueueCapacity ≤ (d.port st).textQueue.length) : d.queueText st text = d.uplinkDropFault st := by
  rw [Device.queueText, if_neg (Bool.not_eq_false _ ▸ present), if_pos full]

theorem Device.queueText_of_room (present : (d.port st).carrier = true)
    (room : (d.port st).textQueue.length < Config.textQueueCapacity) :
    d.queueText st text = d.modPort st fun p => { p with textQueue := p.textQueue ++ [text] } := by
  rw [Device.queueText, if_neg (Bool.not_eq_false _ ▸ present), if_neg (Nat.not_le.mpr room)]

/-- R161: a TEXT_DOWN for one of the sixteen stations. -/
theorem Device.takeTextDown_of_station {number : Byte} (named : number.toNat = st.val) :
    d.takeTextDown number text = d.queueText st text := by
  rw [Device.takeTextDown, readStation_eq_some named]

/-- R161: a TEXT_DOWN whose number is no station's. -/
theorem Device.takeTextDown_of_nobody {number : Byte} (nobody : 15 < number.toNat) :
    d.takeTextDown number text = d.notice .protocol none := by
  rw [Device.takeTextDown, show readStation number = none from dif_neg (by omega)]

/-- R161, R162, R205: a TEXT_DOWN of 1 to 48 bytes has a good length. -/
theorem exec_textDown (q : List Instr) (hears : d.HearsUplink) (number : Byte) (least : 1 ≤ text.length)
    (most : text.length ≤ 48) :
    exec (.textDown number text) ⟨d, q⟩ = .next ⟨d.heardUplink.takeTextDown number text, q⟩ := by
  have fits : textFits text = true := by simp [textFits, Config.textLimit, least, most]
  refine Eq.trans ?_ (State.onDevice_receiveUplink d q (fun d => d.takeTextDown number text) hears)
  simp [exec, execTextDown, fits]

end

/-- Settles O19, by the station number, the carrier and the room in the text queue. -/
theorem textDownJoinsTheTextQueue : Obligations.TextDownJoinsTheTextQueue := by
  intro d q number text hears least most
  rw [exec_textDown q hears number least most]
  refine ⟨fun nobody => ?_, fun st named => ?_⟩
  · rw [Device.takeTextDown_of_nobody nobody]
  · rw [Device.takeTextDown_of_station named]
    refine ⟨fun absent => ?_, fun present full => ?_, fun present room => ?_⟩
    · rw [Device.queueText_of_absent (by exact absent)]
    · rw [Device.queueText_of_full (by exact present) (by exact full)]
      rfl
    · rw [Device.queueText_of_room (by exact present) (by exact room)]

/-! ### The receivers -/

theorem Port.lineFree_iff (p : Port) : p.lineFree = true ↔ p.carrier = true ∧ p.transmitter = .idle := by
  simp [Port.lineFree]

/-- R151: a free line takes a start delimiter. -/
theorem Port.takeDelimiter_of_free {p : Port} (free : p.carrier = true ∧ p.transmitter = .idle) :
    p.takeDelimiter = { p with receiver := .receiving } :=
  if_pos (p.lineFree_iff.mpr free)

/-- R151: without a carrier, or while the transmitter is sending, a start delimiter is not taken. -/
theorem Port.takeDelimiter_of_not_free {p : Port} (busy : p.carrier = false ∨ p.transmitter ≠ .idle) :
    p.takeDelimiter = p := by
  refine if_neg fun free => ?_
  obtain ⟨present, idle⟩ := p.lineFree_iff.mp free
  obtain absent | sending := busy
  · exact Bool.false_ne_true (absent.symm.trans present)
  · exact sending idle

section
variable {d : Device} {st : Station}

/-- What changes nothing in the part at work changes nothing under RESET either. -/
theorem Device.running_of_fixed {f : Device → Device} (fixed : f d = d) : d.running f = d := by
  unfold Device.running
  split
  · rfl
  · exact fixed

theorem exec_stationStartDelimiter_of_free (q : List Instr) (works : d.Works)
    (free : (d.port st).carrier = true ∧ (d.port st).transmitter = .idle) :
    exec (.stationStartDelimiter st) ⟨d, q⟩ = .next ⟨d.modPort st fun p => { p with receiver := .receiving }, q⟩ := by
  rw [← d.modPort_congr st Port.takeDelimiter _ (Port.takeDelimiter_of_free free)]
  exact State.onDevice_running d q _ works

theorem exec_stationStartDelimiter_of_not_free (q : List Instr)
    (busy : (d.port st).carrier = false ∨ (d.port st).transmitter ≠ .idle) :
    exec (.stationStartDelimiter st) ⟨d, q⟩ = .next ⟨d, q⟩ :=
  next_of_unchanged (Device.running_of_fixed (d.modPort_eq_self st _ (Port.takeDelimiter_of_not_free busy)))

/-- R162: the uplink's receiver takes a start delimiter while the carrier is PRESENT, whatever the transmitter does. -/
theorem exec_uplinkStartDelimiter_of_present (q : List Instr) (works : d.Works) (present : d.uplink.carrier = true) :
    exec .uplinkStartDelimiter ⟨d, q⟩ = .next ⟨{ d with uplink := { d.uplink with receiver := .receiving } }, q⟩ := by
  have taken : d.uplink.takeDelimiter = { d.uplink with receiver := .receiving } := if_pos present
  rw [← taken]
  exact State.onDevice_running d q _ works

theorem exec_uplinkStartDelimiter_of_absent (q : List Instr) (absent : d.uplink.carrier = false) :
    exec .uplinkStartDelimiter ⟨d, q⟩ = .next ⟨d, q⟩ := by
  have passed : d.uplink.takeDelimiter = d.uplink := if_neg (Bool.eq_false_iff.mp absent)
  exact next_of_unchanged (Device.running_of_fixed (congrArg (fun u : Uplink => { d with uplink := u }) passed))

/-! ### The transmitter -/

/-- R151: the own-frame queue goes first. -/
theorem Device.beginNext_of_own {f : StationFrame} {rest : List StationFrame} (own : (d.port st).ownQueue = f :: rest) :
    d.modPort st Port.beginNext = d.modPort st fun p => { p with ownQueue := rest, transmitter := .sending f } :=
  d.modPort_congr st _ _ (by simp [Port.beginNext, own])

/-- R151: with no own frame the text queue is next. -/
theorem Device.beginNext_of_text {t : List Byte} {rest : List (List Byte)} (own : (d.port st).ownQueue = [])
    (text : (d.port st).textQueue = t :: rest) :
    d.modPort st Port.beginNext = d.modPort st fun p => { p with textQueue := rest, transmitter := .sending (.text t) } :=
  d.modPort_congr st _ _ (by simp [Port.beginNext, own, text])

theorem Device.beginNext_of_empty (own : (d.port st).ownQueue = []) (text : (d.port st).textQueue = []) :
    d.modPort st Port.beginNext = d.modPort st fun p => { p with transmitter := .idle } :=
  d.modPort_congr st _ _ (by simp [Port.beginNext, own, text])

/-- R151: an IDLE transmitter beside a WAITING receiver begins the next frame. -/
theorem Device.transmit_of_ready (idle : (d.port st).transmitter = .idle) (waiting : (d.port st).receiver = .waiting) :
    d.transmit st = d.modPort st Port.beginNext :=
  d.modPort_congr st _ _ (by simp [Port.beginIfReady, idle, waiting])

theorem Device.transmit_of_not_ready (busy : (d.port st).transmitter ≠ .idle ∨ (d.port st).receiver = .receiving) :
    d.transmit st = d := by
  refine d.modPort_eq_self st _ ?_
  unfold Port.beginIfReady
  split
  · rename_i idle waiting
    obtain sending | receiving := busy
    · exact absurd idle sending
    · exact nomatch waiting.symm.trans receiving
  · rfl

theorem Device.transmit_of_empty (idle : (d.port st).transmitter = .idle) (waiting : (d.port st).receiver = .waiting)
    (own : (d.port st).ownQueue = []) (text : (d.port st).textQueue = []) : d.transmit st = d := by
  rw [Device.transmit_of_ready idle waiting, Device.beginNext_of_empty own text]
  exact d.modPort_eq_self st _ (by rw [← idle])

theorem exec_stationTransmitStart (q : List Instr) (works : d.Works) :
    exec (.stationTransmitStart st) ⟨d, q⟩ = .next ⟨d.transmit st, q⟩ :=
  State.onDevice_running d q _ works

/-- R151: after the last byte of a frame the next one begins at once. -/
theorem exec_stationFrameSent {g : StationFrame} (q : List Instr) (works : d.Works)
    (sending : (d.port st).transmitter = .sending g) :
    exec (.stationFrameSent st) ⟨d, q⟩ = .next ⟨d.modPort st Port.beginNext, q⟩ := by
  rw [← d.modPort_congr st Port.frameSent _ (by simp [Port.frameSent, sending])]
  exact State.onDevice_running d q _ works

end

/-- Settles O7: what each delimiter, each frame without one and each turn of the transmitter does. -/
theorem stationLineIsHalfDuplex : Obligations.StationLineIsHalfDuplex := by
  refine ⟨⟨fun d q st works present idle => exec_stationStartDelimiter_of_free q works ⟨present, idle⟩,
      fun d q st busy => exec_stationStartDelimiter_of_not_free q busy,
      fun d q works present => exec_uplinkStartDelimiter_of_present q works present,
      fun d q absent => exec_uplinkStartDelimiter_of_absent q absent⟩,
    ⟨fun d q st c frame waiting => exec_of_deaf_port frame fun f => d.receiveStation_of_waiting st f waiting,
      fun d q c frame waiting => exec_of_deaf_uplink frame fun f => d.receiveUplink_of_waiting f waiting⟩,
    fun d q st works => ?transmitStart, fun d q st g works sending => ?frameSent⟩
  case transmitStart =>
    rw [exec_stationTransmitStart q works]
    refine ⟨rfl, fun idle waiting => ⟨fun f rest own => ?_, fun t rest own text => ?_, fun own text => ?_⟩, fun busy => ?_⟩
    · rw [Device.transmit_of_ready idle waiting, Device.beginNext_of_own own]
    · rw [Device.transmit_of_ready idle waiting, Device.beginNext_of_text own text]
    · rw [Device.transmit_of_empty idle waiting own text]
    · rw [Device.transmit_of_not_ready busy]
  case frameSent =>
    rw [exec_stationFrameSent q works sending]
    refine ⟨fun f rest own => ?_, fun t rest own text => ?_, fun own text => ?_⟩
    · rw [Device.beginNext_of_own own]
    · rw [Device.beginNext_of_text own text]
    · rw [Device.beginNext_of_empty own text]

end Sys2Proof.Machine
end

section
/-! PROOF. The uplink carrier (O32): its loss (R166), its return and the held frame that no longer stands (R167). -/

namespace Sys2Proof.Machine

section
variable {d : Device}

/-! ### Frames that still stand -/

theorem Device.requestStands_iff (ref : SlotRef) (k : RequestKind) :
    d.requestStands ref k = true ↔ (d.slot ref.slot).generation = ref.generation ∧
      ∃ n m a, (d.slot ref.slot).request = some { kind := k, place := .outstanding n, funds := m, amount := a } := by
  rw [Device.requestStands, Bool.and_eq_true, beq_iff_eq, Slot.awaits_iff]

/-- R167: the model's test of a held frame is the rule's, kind by kind. -/
theorem Device.frameStands_iff (f : UplinkFrame) : d.frameStands f = true ↔ d.FrameStillStands f := by
  cases f with
  | authReq | renewReq | capture => exact Device.requestStands_iff _ _
  | void ref =>
    cases ref with
    | some ref => exact Device.requestStands_iff ref .void
    | none => exact iff_of_true rfl trivial
  | sessionReport | bill | exportEnd | notice | reply | serviceUp => exact iff_of_true rfl trivial

theorem Device.dropFallen_of_free (free : d.uplink.transmitter = .free) : d.dropFallen = d := by
  rw [Device.dropFallen, free]

theorem Device.dropFallen_of_stands {source : Source} {f : UplinkFrame} (holds : d.uplink.transmitter = .holding source f)
    (stands : d.FrameStillStands f) : d.dropFallen = d := by
  simp only [Device.dropFallen, holds, (Device.frameStands_iff f).mpr stands, if_true]

theorem Device.dropFallen_of_fallen {source : Source} {f : UplinkFrame} (holds : d.uplink.transmitter = .holding source f)
    (fallen : ¬ d.FrameStillStands f) : d.dropFallen = d.modUplink fun u => { u with transmitter := .free } := by
  simp only [Device.dropFallen, holds, if_neg (mt (Device.frameStands_iff f).mp fallen)]

/-! ### The carrier -/

/-- R166: the part when the loss of the uplink carrier has been taken. -/
theorem exec_uplinkCarrierLoss (q : List Instr) (works : d.Works) (present : d.uplink.carrier = true) :
    exec .uplinkCarrierLoss ⟨d, q⟩ =
      .next ⟨({ d with uplinkDetect := false }.modUplink fun u => { u with carrier := false, receiver := .waiting }).notice
        .carrier none, q⟩ := by
  refine (State.onDevice_running { d with uplinkDetect := false } q Device.takeUplinkLoss works).trans ?_
  rw [Device.takeUplinkLoss, if_pos (by exact present)]

/-- R167: the part when the uplink carrier is back, its held frame not yet looked at. -/
def Device.uplinkBack (d : Device) : Device :=
  ({ d with uplinkDetect := true }.modUplink fun u => { u with carrier := true }).notice .carrier none

theorem exec_uplinkCarrierReturn (q : List Instr) (works : d.Works) (absent : d.uplink.carrier = false) :
    exec .uplinkCarrierReturn ⟨d, q⟩ = .next ⟨d.uplinkBack.dropFallen, q⟩ := by
  refine (State.onDevice_running { d with uplinkDetect := true } q Device.takeUplinkReturn works).trans ?_
  rw [Device.takeUplinkReturn, if_neg (by exact Bool.eq_false_iff.mp absent)]
  rfl

/-- The return of the carrier touches no slot, so the same frames stand. -/
theorem Device.frameStillStands_uplinkBack (d : Device) (f : UplinkFrame) :
    d.uplinkBack.FrameStillStands f ↔ d.FrameStillStands f :=
  Iff.rfl

end

/-- Settles O32: what the transmitter holds when the carrier returns decides whether it is dropped. -/
theorem uplinkCarrierIsFollowed : Obligations.UplinkCarrierIsFollowed := by
  intro d q works
  refine ⟨fun present => exec_uplinkCarrierLoss q works present, fun absent => ?_⟩
  rw [exec_uplinkCarrierReturn q works absent]
  refine ⟨fun free => ?_, fun source f holds => ⟨fun stands => ?_, fun fallen => ?_⟩⟩
  · rw [Device.dropFallen_of_free (by exact free), ← free]
    rfl
  · rw [Device.dropFallen_of_stands (by exact holds) ((d.frameStillStands_uplinkBack f).mpr stands), ← holds]
    rfl
  · rw [Device.dropFallen_of_fallen (by exact holds) (mt (d.frameStillStands_uplinkBack f).mp fallen)]
    rfl

end Sys2Proof.Machine
end

section
/-! PROOF. RESTART (O56): the request that closes the input queue (R189), and the management commands while the unit takes no
request (R173). -/

namespace Sys2Proof.Machine

/-! ### A unit that takes nothing (R173) -/

/-- R173: the unit takes requests while it has none in hand, room for a reply, and restart taken clear. -/
theorem Management.mayTake_iff (m : Management) :
    m.mayTake = true ↔ m.inHand = none ∧ m.replies.length < Config.replyCapacity ∧ m.restartTaken = false := by
  simp [Management.mayTake, and_assoc]

theorem Management.mayTake_eq_false {m : Management} (closed : m.restartTaken = true ∨ Config.replyCapacity ≤ m.replies.length) :
    m.mayTake = false := by
  refine Bool.eq_false_iff.mpr fun takes => ?_
  obtain ⟨-, room, untaken⟩ := m.mayTake_iff.mp takes
  obtain restart | full := closed
  · exact nomatch untaken.symm.trans restart
  · exact absurd room full.not_gt

section
variable {d : Device} (accepts : Byte → Bool) (owner : Device → MgmtRequest → Answer)

theorem Device.takeRequest_of_empty (empty : d.mgmt.input = []) : d.takeRequest accepts owner = d := by
  rw [Device.takeRequest, empty]

theorem Device.takeRequest_of_closed (closed : d.mgmt.mayTake = false) : d.takeRequest accepts owner = d := by
  unfold Device.takeRequest
  split
  · rfl
  · rw [closed, Bool.false_and, if_neg Bool.false_ne_true]

end

/-! ### The management commands -/

/-- A command acts through the taking of a request alone (R173). -/
def TakesRequests (c : Instr) : Prop :=
  ∃ accepts owner, ∀ s, exec c s = s.onDevice fun d => d.running fun d => d.takeRequest accepts owner

theorem TakesRequests.of_asks {c : Instr × Byte × Nat} (asks : Asks c) : TakesRequests c.1 := by
  obtain ⟨⟨owner, acts⟩, -⟩ := asks
  exact ⟨_, owner, acts⟩

/-- R206, R178: the commands of the twenty kinds, and that of the undefined ones. -/
theorem takesRequests_of_mem : ∀ c ∈ [Instr.accountPut, .accountDelete, .accountGet, .accountState, .accountCredit, .tariffLoad,
    .tariffSelect, .configSet, .configGet, .stationGet, .stationConfig, .stationService, .stationReset, .stationWake,
    .stationClear, .holdGet, .periodClose, .noticeEnable, .noticeClear, .restart, .unknownRequest], TakesRequests c :=
  have rows := List.forall_mem_map (f := Prod.fst) (P := TakesRequests).mpr fun c row => .of_asks (asks_of_mem c row)
  List.forall_mem_append.mpr ⟨rows, List.forall_mem_singleton.mpr ⟨_, _, fun _ => rfl⟩⟩

theorem TakesRequests.exec_of_fixed {c : Instr} (takes : TakesRequests c) {d : Device} (q : List Instr)
    (fixed : ∀ accepts owner, d.takeRequest accepts owner = d) : exec c ⟨d, q⟩ = .next ⟨d, q⟩ := by
  obtain ⟨accepts, owner, acts⟩ := takes
  exact (acts _).trans (next_of_unchanged (Device.running_of_fixed (fixed accepts owner)))

/-- Settles O56: the owner of RESTART sets restart taken; after that, or without room or a request, the taking changes nothing. -/
theorem restartIsTaken : Obligations.RestartIsTaken := by
  refine ⟨fun d q tag rest h => State.onRequest_of_answer q Device.answerRestart h rfl rfl, fun d q closed c member => ?_⟩
  refine (takesRequests_of_mem c member).exec_of_fixed q fun accepts owner => ?_
  obtain restart | full | empty := closed
  · exact d.takeRequest_of_closed accepts owner (Management.mayTake_eq_false (.inl restart))
  · exact d.takeRequest_of_closed accepts owner (Management.mayTake_eq_false (.inr full))
  · exact Device.takeRequest_of_empty accepts owner empty

end Sys2Proof.Machine
end

section
/-! PROOF. The notice unit: an occurrence of a class (O6), and the requests NOTICE_ENABLE and NOTICE_CLEAR (O55). -/

namespace Sys2Proof.Machine

/-! ### The live set (R191) -/

theorem Notices.live_iff (n : Notices) (c : Fin 12) :
    n.live c = true ↔ n.master = true ∧ n.pending[c] = true ∧ n.enabled[c] = true := by
  simp [Notices.live, and_assoc]

/-- R191: the live set is not empty when the master enable is on and some pending class is enabled. -/
theorem Notices.anyLive_iff (n : Notices) :
    n.anyLive = true ↔ n.master = true ∧ ∃ c : Fin 12, n.pending[c] = true ∧ n.enabled[c] = true := by
  rw [Device.Steady.anyLive_iff, ← exists_and_left]
  exact exists_congr n.live_iff

/-! ### An occurrence (R193) -/

section
variable (n : Notices) {c : NoticeClass} (x : Option Station)

/-- R193: an occurrence of a pending class changes its last station alone. -/
theorem Notices.occur_of_pending (pending : n.pending[c.index] = true) :
    n.occur c x = { n with lastStation := n.lastStation.set c.index x } := if_pos pending

/-- R193: an occurrence of a class that is not pending makes it so, and sets the notice-waiting flag if it is live then. -/
theorem Notices.occur_of_clear (clear : n.pending[c.index] = false) :
    n.occur c x = { n with
      lastStation := n.lastStation.set c.index x, pending := n.pending.set c.index true
      waiting := n.waiting || (n.enabled[c.index] && n.master) } := by
  have live : ({ n with lastStation := n.lastStation.set c.index x, pending := n.pending.set c.index true } : Notices).live
      c.index = (n.enabled[c.index] && n.master) := by
    simp [Notices.live, Bool.and_comm]
  simp only [Notices.occur, clear, live, Bool.false_eq_true, if_false]
  cases n.enabled[c.index] && n.master <;> simp

end

theorem Notices.occur_enabled (n : Notices) (c : NoticeClass) (x : Option Station) :
    (n.occur c x).enabled = n.enabled ∧ (n.occur c x).master = n.master := by
  cases pending : n.pending[c.index]
  · rw [n.occur_of_clear x pending]; exact ⟨rfl, rfl⟩
  · rw [n.occur_of_pending x pending]; exact ⟨rfl, rfl⟩

/-- R193: the notice-waiting flag is set by the occurrence of a class that was not pending and is live with it. -/
theorem Notices.occur_waiting (n : Notices) (c : NoticeClass) (x : Option Station) :
    (n.occur c x).waiting = (n.waiting || (!n.pending[c.index] && n.enabled[c.index] && n.master)) := by
  cases pending : n.pending[c.index]
  · rw [n.occur_of_clear x pending, Bool.not_false, Bool.true_and]
  · rw [n.occur_of_pending x pending, Bool.not_true, Bool.false_and, Bool.false_and, Bool.or_false]

/-- R192: every number below 12 is the number of a class. -/
theorem NoticeClass.exists_index (k : Fin 12) : ∃ c : NoticeClass, c.index = k := by
  fin_cases k
  exacts [⟨.holdExpired, rfl⟩, ⟨.paymentUnconfirmed, rfl⟩, ⟨.shortfall, rfl⟩, ⟨.jamAbandoned, rfl⟩, ⟨.jam, rfl⟩, ⟨.carrier, rfl⟩,
    ⟨.accountStopped, rfl⟩, ⟨.uplinkDrop, rfl⟩, ⟨.protocol, rfl⟩, ⟨.link, rfl⟩, ⟨.exportDone, rfl⟩, ⟨.touch, rfl⟩]

/-- Settles O6: whether the class was pending decides what the occurrence sets; the other classes are out of its reach. -/
theorem occurrenceSetsPendingClass : Obligations.OccurrenceSetsPendingClass := by
  intro d c x
  obtain ⟨pending, lastStation⟩ := d.notices.occur_pending c x
  obtain ⟨enabled, master⟩ := d.notices.occur_enabled c x
  refine ⟨lastStation, pending, d.notices.occur_waiting c x, enabled, master, fun k other => ?_, rfl⟩
  obtain ⟨k, rfl⟩ := NoticeClass.exists_index k
  exact d.notices.occur_pending_ne other x

/-! ### The set of classes a request names (R203) -/

/-- The twelve low bits of a halfword, one flag per class. -/
def classFlags (h : Half) : Vector Bool 12 := Vector.ofFn fun c => h.getLsbD c.val

theorem getElem_classFlags (h : Half) (c : Fin 12) : (classFlags h)[c] = h.getLsbD c.val := by
  simp [classFlags]

theorem readClasses_of_low {h : Half} (low : h.toNat < 4096) : readClasses h = some (classFlags h) := if_pos low

theorem readClasses_of_high {h : Half} (high : 4096 ≤ h.toNat) : readClasses h = none := if_neg high.not_gt

/-! ### The two requests (R196, R197) -/

/-- The answer to a request for the change `f` of the notice unit by a set of classes. -/
def Device.answerClasses (f : Notices → Vector Bool 12 → Notices) (d : Device) (r : MgmtRequest) : Answer :=
  match r.classes with
  | none => d.answerNotices d.notices .badValue
  | some named => d.answerNotices (f d.notices named) .ok

theorem exec_noticeEnable (s : State) :
    exec .noticeEnable s = s.onRequest 0x1E#8 (Device.answerClasses Notices.enable) := rfl

theorem exec_noticeClear (s : State) :
    exec .noticeClear s = s.onRequest 0x1F#8 (Device.answerClasses Notices.clearClasses) := rfl

section
variable {d : Device} (q : List Instr) {tag : Half} {kind b1 b0 : Byte} {rest : List MgmtRequest}
  (f : Notices → Vector Bool 12 → Notices) (h : d.Takes { tag := tag, kind := kind, params := [b1, b0] } rest)
  (good : requestFault { tag := tag, kind := kind, params := [b1, b0] } = none)
include h good

/-- R203, R206: a request that names a class above 11 is BAD_VALUE and changes nothing. -/
theorem State.onRequest_classes_of_high (high : 4096 ≤ (b1 ++ b0 : Half).toNat) :
    State.onRequest ⟨d, q⟩ kind (Device.answerClasses f) =
      .next ⟨(d.taken rest).reply tag .badValue (.notices d.notices), q⟩ := by
  refine State.onRequest_of_answer q _ h good ?_
  have bad : MgmtRequest.classes ⟨tag, kind, [b1, b0]⟩ = none := readClasses_of_high high
  rw [Device.answerClasses, bad]
  rfl

/-- R198: a request that names no class above 11 makes its change and is answered with the notice state after it. -/
theorem State.onRequest_classes_of_low (low : (b1 ++ b0 : Half).toNat < 4096) :
    State.onRequest ⟨d, q⟩ kind (Device.answerClasses f) =
      .next ⟨({ d.taken rest with notices := f d.notices (classFlags (b1 ++ b0)) }).reply tag .ok
        (.notices (f d.notices (classFlags (b1 ++ b0)))), q⟩ := by
  refine State.onRequest_of_answer q _ h good ?_
  have read : MgmtRequest.classes ⟨tag, kind, [b1, b0]⟩ = some (classFlags (b1 ++ b0)) := readClasses_of_low low
  rw [Device.answerClasses, read]
  rfl

end

/-- R196: NOTICE_ENABLE leaves the notice-waiting flag set when a pending class is enabled, whatever it was before. -/
theorem Notices.enable_waiting_iff (n : Notices) (flags : Vector Bool 12) :
    (n.enable flags).waiting = true ↔ ∃ c : Fin 12, n.pending[c] = true ∧ flags[c] = true :=
  (Notices.anyLive_iff { n with enabled := flags, master := true }).trans (and_iff_right rfl)

section
variable (n : Notices) {named : Vector Bool 12} {c : Fin 12}

/-- R197: a class named is not pending afterwards; its last station is cleared with the pending flag. -/
theorem Notices.clearClasses_of_named (name : named[c] = true) :
    (n.clearClasses named).pending[c] = false ∧
    (n.pending[c] = true → (n.clearClasses named).lastStation[c] = none) ∧
    (n.pending[c] = false → (n.clearClasses named).lastStation[c] = n.lastStation[c]) := by
  rw [Fin.getElem_fin] at name
  simp +contextual [Notices.clearClasses, name]

theorem Notices.clearClasses_of_unnamed (other : named[c] = false) :
    (n.clearClasses named).pending[c] = n.pending[c] ∧ (n.clearClasses named).lastStation[c] = n.lastStation[c] := by
  rw [Fin.getElem_fin] at other
  simp [Notices.clearClasses, other]

end

/-- R197: NOTICE_CLEAR keeps the notice-waiting flag while the live set is not empty. -/
theorem Notices.clearClasses_waiting_iff (n : Notices) (named : Vector Bool 12) :
    (n.clearClasses named).waiting = true ↔ n.waiting = true ∧ n.master = true ∧
      ∃ c : Fin 12, (n.clearClasses named).pending[c] = true ∧ n.enabled[c] = true :=
  Bool.and_eq_true_iff.trans (and_congr_right' (Notices.anyLive_iff _))

/-- Settles O55: both requests read one set of classes, refused above class 11; the change of each is read class by class. -/
theorem noticeEnableAndClearAreTaken : Obligations.NoticeEnableAndClearAreTaken := by
  refine ⟨fun d q tag rest b1 b0 h => ?enable, fun d q tag rest b1 b0 h => ?clear⟩
  case enable =>
    rw [exec_noticeEnable]
    refine ⟨State.onRequest_classes_of_high q Notices.enable h rfl, fun low =>
      ⟨_, State.onRequest_classes_of_low q Notices.enable h rfl low, rfl, rfl, rfl, getElem_classFlags _, ?_⟩⟩
    simp only [Notices.enable_waiting_iff, getElem_classFlags]
  case clear =>
    rw [exec_noticeClear]
    exact ⟨State.onRequest_classes_of_high q Notices.clearClasses h rfl, fun low =>
      ⟨_, State.onRequest_classes_of_low q Notices.clearClasses h rfl low, rfl, rfl,
        fun c name => d.notices.clearClasses_of_named ((getElem_classFlags _ c).trans name),
        fun c other => d.notices.clearClasses_of_unnamed ((getElem_classFlags _ c).trans other),
        d.notices.clearClasses_waiting_iff _⟩⟩

end Sys2Proof.Machine
end

section
/-! PROOF. The bytes of an inbound frame at the receiver of its line (O57): the receiver counts the bytes after the delimiter against
the length byte (R201), the whole frame passes the check sequence (R202), and its header and payload read back as the command. -/

namespace Sys2Proof

/-! ### The receiver (R201) -/

theorem Line.receiveAll_cons (line : Line) (rx : Rx) (e : LineEvent) (rest : List LineEvent) :
    line.receiveAll rx (e :: rest) =
      ((line.receiveAll (line.receive rx e).1 rest).1, (line.receive rx e).2 ++ (line.receiveAll (line.receive rx e).1 rest).2) :=
  rfl

/-- R201: a byte before the last one that the length byte counts joins the frame. -/
theorem Line.receive_of_short (line : Line) {n b : Byte} {rest : List Byte}
    (short : (n :: rest ++ [b]).length < line.frameLength n) :
    line.receive (.receiving (n :: rest)) (.byte b) = (.receiving (n :: rest ++ [b]), []) :=
  if_pos short

/-- R201: the last byte that the length byte counts finishes the frame. -/
theorem Line.receive_of_whole (line : Line) {n b : Byte} {rest : List Byte}
    (whole : (n :: rest ++ [b]).length = line.frameLength n) :
    line.receive (.receiving (n :: rest)) (.byte b) = (.waiting, [line.finishFrame (n :: rest ++ [b])]) :=
  if_neg whole.not_lt

/-- R201: the bytes that complete a frame begun with the length byte `n` are taken one by one, and the last one finishes it. -/
theorem Line.receiveAll_rest (line : Line) (n : Byte) {rest bytes : List Byte} (more : bytes ≠ [])
    (whole : (n :: rest ++ bytes).length = line.frameLength n) :
    line.receiveAll (.receiving (n :: rest)) (bytes.map .byte) = (.waiting, [line.finishFrame (n :: rest ++ bytes)]) := by
  induction bytes generalizing rest with
  | nil => exact absurd rfl more
  | cons b bytes ih =>
    rw [List.map_cons, Line.receiveAll_cons]
    obtain rfl | further := eq_or_ne bytes []
    · rw [line.receive_of_whole whole]
      rfl
    · have regroup : n :: (rest ++ [b]) ++ bytes = n :: rest ++ b :: bytes := by simp
      have short : (n :: rest ++ [b]).length < line.frameLength n := by
        have := List.length_pos_iff.mpr further
        simp only [List.length_append, List.length_cons, List.length_nil] at whole ⊢
        omega
      rw [line.receive_of_short short, List.cons_append, ih further (by rw [regroup, whole]), regroup]
      rfl

/-- R201: the start delimiter, a length byte within the line's limit, and the bytes that it counts are a whole frame. -/
theorem Line.receiveAll_frame (line : Line) {n : Byte} {bytes : List Byte} (fits : n.toNat ≤ line.payloadLimit) (more : bytes ≠ [])
    (whole : (n :: bytes).length = line.frameLength n) :
    line.receiveAll .waiting ((startDelimiter :: n :: bytes).map .byte) =
      (.waiting, [line.delimiterCommand, line.finishFrame (n :: bytes)]) := by
  have delimiter : line.receive .waiting (.byte startDelimiter) = (.receiving [], [line.delimiterCommand]) := rfl
  have length : line.receive (.receiving []) (.byte n) = (.receiving [n], []) := if_neg fits.not_gt
  rw [List.map_cons, List.map_cons, Line.receiveAll_cons, delimiter, Line.receiveAll_cons, length,
    line.receiveAll_rest n (rest := []) more whole]
  rfl

/-- R152, R202: a frame with the check sequence of its bytes comes to its header and payload. -/
theorem Line.finishFrame_checked (line : Line) (covered : List Byte) :
    line.finishFrame (covered ++ halfBytes (checkSequence covered)) = line.decodeBody (covered.drop 1) := by
  have before : (covered ++ halfBytes (checkSequence covered)).length - 2 = covered.length := List.length_append ▸ rfl
  unfold Line.finishFrame
  rw [before, List.take_left, List.drop_left]
  exact if_pos rfl

/-- R201, R202: a frame whose length byte is within the line's limit and counts its bytes, and whose check sequence is good, comes
to the start delimiter and the command of its header and payload. -/
theorem Line.receiveAll_checked (line : Line) {n : Byte} {body : List Byte} (fits : n.toNat ≤ line.payloadLimit)
    (counted : body.length = line.headerLength + n.toNat) :
    line.receiveAll .waiting ((startDelimiter :: n :: (body ++ halfBytes (checkSequence (n :: body)))).map .byte) =
      (.waiting, [line.delimiterCommand, line.decodeBody body]) := by
  have more : body ++ halfBytes (checkSequence (n :: body)) ≠ [] := List.append_ne_nil_of_right_ne_nil _ (List.cons_ne_nil _ _)
  have whole : (n :: (body ++ halfBytes (checkSequence (n :: body)))).length = line.frameLength n := by
    simp only [halfBytes, List.length_cons, List.length_append, List.length_nil, Line.frameLength, counted]
    omega
  rw [line.receiveAll_frame fits more whole, ← List.cons_append, line.finishFrame_checked]
  rfl

/-- One byte counts a payload within its line's limit. -/
theorem Line.toNat_lengthByte (line : Line) {payload : List Byte} (fits : payload.length ≤ line.payloadLimit) :
    (BitVec.ofNat 8 payload.length).toNat = payload.length := by
  have limit : line.payloadLimit < 256 := by
    cases line <;> simp [Line.payloadLimit, Config.stationPayloadLimit, Config.uplinkPayloadLimit]
  rw [BitVec.toNat_ofNat]
  exact Nat.mod_eq_of_lt (fits.trans_lt limit)

/-- R201: an envelope taken by a waiting receiver is the start delimiter and what its header and payload come to. -/
theorem Line.receiveAll_envelope (line : Line) {header payload : List Byte} (headed : header.length = line.headerLength)
    (fits : payload.length ≤ line.payloadLimit) :
    line.receiveAll .waiting ((envelope header payload).map .byte) =
      (.waiting, [line.delimiterCommand, line.decodeBody (header ++ payload)]) := by
  have counted := line.toNat_lengthByte fits
  have length : (header ++ payload).length = line.headerLength + (BitVec.ofNat 8 payload.length).toNat := by
    rw [List.length_append, headed, counted]
  exact line.receiveAll_checked (counted.trans_le fits) length

/-! ### The commands that are frames (R204, R205) -/

/-- The frame of every well-formed command fits its line and reads back as the command. -/
theorem frameLayout (i : Instr) : Laws.FrameLayout.Statement i := by
  cases i with
  | start => exact Laws.FrameLayout.start _ _ _ _ _ _ _
  | feed => exact Laws.FrameLayout.feed _ _ _ _
  | exit => exact Laws.FrameLayout.exit _ _
  | jam => exact Laws.FrameLayout.jam _ _
  | clear => exact Laws.FrameLayout.clear _ _
  | stop => exact Laws.FrameLayout.stop _
  | keyin => exact Laws.FrameLayout.keyin _ _ _
  | logout => exact Laws.FrameLayout.logout _
  | service => exact Laws.FrameLayout.service _ _
  | card => exact Laws.FrameLayout.card _ _
  | cardOut => exact Laws.FrameLayout.cardOut _
  | authResult => exact Laws.FrameLayout.authResult _ _ _ _ _
  | renewResult => exact Laws.FrameLayout.renewResult _ _ _ _
  | captureDone => exact Laws.FrameLayout.captureDone _ _ _
  | voidDone => exact Laws.FrameLayout.voidDone _ _
  | textDown => exact Laws.FrameLayout.textDown _ _
  | mgmt => exact Laws.FrameLayout.mgmt _ _ _
  | _ => exact fun _ _ _ _ noFrame => nomatch noFrame

theorem encodeFrame_eq_some {i : Instr} {line : Line} {bytes : List Byte} (h : encodeFrame i = some (line, bytes)) :
    ∃ header payload, encodeParts i = some (line, header, payload) ∧ bytes = envelope header payload := by
  unfold encodeFrame at h
  split at h
  · rename_i parts
    obtain ⟨rfl, rfl⟩ := Prod.mk.inj (Option.some.inj h)
    exact ⟨_, _, parts, rfl⟩
  · exact nomatch h

/-- Settles O57: the frame's layout fits its line, so the receiver takes the whole envelope, and it reads back as the command. -/
theorem inboundFramesComeBack : Obligations.InboundFramesComeBack := by
  intro i line bytes wf encoded
  obtain ⟨header, payload, parts, rfl⟩ := encodeFrame_eq_some encoded
  obtain ⟨headed, fits, back⟩ := frameLayout i wf line header payload parts
  rw [line.receiveAll_envelope headed fits, back]

end Sys2Proof
end

section
/-! PROOF. A step and the queue of commands (O1, O2). -/

namespace Sys2Proof.Machine

/-- Settles O1: the step takes the queue apart at its front. -/
theorem stepRunsFrontCommand : Obligations.StepRunsFrontCommand := fun _ _ _ => rfl

/-- Log 1: the meaning of every command is an operation on the part alone. -/
theorem exec_eq_onDevice (c : Instr) : ∃ f, ∀ s, exec c s = s.onDevice f :=
  (actsSafely c).imp fun _ ⟨_, acts⟩ => acts

/-- Settles O2: a command is an operation on the part, and such an operation takes a next state with the queue as it was. -/
theorem queueIsKeptByEveryCommand : Obligations.QueueIsKeptByEveryCommand := by
  refine ⟨fun _ => rfl, fun c d q => ?_⟩
  obtain ⟨f, acts⟩ := exec_eq_onDevice c
  exact ⟨f d, acts ⟨d, q⟩⟩

end Sys2Proof.Machine
end
